-- ==== Sys2Proof/Word.lean ====
section
/-! DEFINITION. The byte and the byte sequence (spec/00_scope.md R9, R10). -/

namespace Sys2Proof

/-- A byte: an 8-bit unsigned value, bit 7 the most significant (R9). -/
abbrev Byte := BitVec 8

/-- A byte sequence, first byte at index 0 (R10). Lengths and indices are naturals (R8). -/
abbrev Bytes := List Byte

end Sys2Proof
end

