-- ==== Sys2Proof/Config.lean ====
section
/-! DEFINITION. The configuration of an instance (spec/00_scope.md R6, spec/10_state.md R33) and the free values:
constants without a body that stand for what the spec leaves undefined. -/

namespace Sys2Proof

/-- The configuration tuple of R33. It is fixed for an instance. `P_DUP_KEEP` is not here: it belongs to the Frame. -/
structure Config where
  /-- `P_MTU_DEFAULT`: the MTU used when the host gives none. -/
  mtuDefault : Nat
  /-- `P_STRICT_F`: a set F bit makes a packet a skip. -/
  strictF : Bool
  /-- `P_ZERO_BYTE`: the placeholder zero byte is written (R168). -/
  zeroByte : Bool
  /-- `P_DON_SORT`: a configuration with 1 is refused (R16). -/
  donSort : Bool
  /-- `P_BUF_CAP`: the capacity of OBUF; `none` is `INF`. -/
  bufCap : Option Nat
deriving DecidableEq, Repr

/-- The values of R6's table for this hardware. -/
def Config.standard : Config :=
  { mtuDefault := 1500, strictF := false, zeroByte := true, donSort := false, bufCap := none }

/-- DESIGN CHOICE (log 3), safe: the k-th free natural, for a transient register outside its command (R23, R34). -/
opaque Config.undefNat : Nat → Nat

/-- DESIGN CHOICE (log 3), safe: the k-th free byte, for `H` and `SFLAGS` outside their command (R27, R34). -/
opaque Config.undefByte : Nat → Byte

/-- DESIGN CHOICE (log 3), safe: the k-th free byte sequence, for `STAGE` outside its command (R27). -/
opaque Config.undefBytes : Nat → Bytes

/-- DESIGN CHOICE (log 3), safe: the k-th free snapshot, for `PKTS` outside its command (R38, R39). -/
opaque Config.undefPkts : Nat → List (Nat × Bytes)

end Sys2Proof
end

