-- ==== Sys2Proof/Syntax.lean ====
section
/-! DEFINITION. The instructions: one constructor per row of spec/opcode_table.json, in its order.

A packet type (spec/30_encoding.md R86) carries the packet's sequence number `q` (spec/10_state.md R37), the F and NRI
bits of payload byte 0 (R71) and the payload after byte 0. A host command (R92) carries its operands. -/

namespace Sys2Proof

/-- The 32 packet types and the 6 host commands. -/
inductive Instr where
  /-- RESERVED_T0. Type 0: reserved, ignored (R163). -/
  | reservedT0 (q : Nat) (f : Bool) (nri : BitVec 2) (body : Bytes)
  /-- SINGLE_NAL_T1_SLICE. Type 1: single NAL unit (R164); non-IDR slice, sets `containsSlice`. -/
  | singleNalT1Slice (q : Nat) (f : Bool) (nri : BitVec 2) (body : Bytes)
  /-- SINGLE_NAL_T2. Type 2: single NAL unit (R164); sets no flag. -/
  | singleNalT2 (q : Nat) (f : Bool) (nri : BitVec 2) (body : Bytes)
  /-- SINGLE_NAL_T3. Type 3: single NAL unit (R164); sets no flag. -/
  | singleNalT3 (q : Nat) (f : Bool) (nri : BitVec 2) (body : Bytes)
  /-- SINGLE_NAL_T4. Type 4: single NAL unit (R164); sets no flag. -/
  | singleNalT4 (q : Nat) (f : Bool) (nri : BitVec 2) (body : Bytes)
  /-- SINGLE_NAL_T5_IDR. Type 5: single NAL unit (R164); IDR slice, sets `isIdr`. -/
  | singleNalT5Idr (q : Nat) (f : Bool) (nri : BitVec 2) (body : Bytes)
  /-- SINGLE_NAL_T6_SEI. Type 6: single NAL unit (R164); SEI, sets `containsSei`, zero byte. -/
  | singleNalT6Sei (q : Nat) (f : Bool) (nri : BitVec 2) (body : Bytes)
  /-- SINGLE_NAL_T7_SPS. Type 7: single NAL unit (R164); SPS, sets `containsSps`, zero byte. -/
  | singleNalT7Sps (q : Nat) (f : Bool) (nri : BitVec 2) (body : Bytes)
  /-- SINGLE_NAL_T8_PPS. Type 8: single NAL unit (R164); PPS, sets `containsPps`, zero byte. -/
  | singleNalT8Pps (q : Nat) (f : Bool) (nri : BitVec 2) (body : Bytes)
  /-- SINGLE_NAL_T9. Type 9: single NAL unit (R164); sets no flag. -/
  | singleNalT9 (q : Nat) (f : Bool) (nri : BitVec 2) (body : Bytes)
  /-- SINGLE_NAL_T10. Type 10: single NAL unit (R164); sets no flag. -/
  | singleNalT10 (q : Nat) (f : Bool) (nri : BitVec 2) (body : Bytes)
  /-- SINGLE_NAL_T11. Type 11: single NAL unit (R164); sets no flag. -/
  | singleNalT11 (q : Nat) (f : Bool) (nri : BitVec 2) (body : Bytes)
  /-- SINGLE_NAL_T12. Type 12: single NAL unit (R164); sets no flag. -/
  | singleNalT12 (q : Nat) (f : Bool) (nri : BitVec 2) (body : Bytes)
  /-- SINGLE_NAL_T13. Type 13: single NAL unit (R164); sets no flag. -/
  | singleNalT13 (q : Nat) (f : Bool) (nri : BitVec 2) (body : Bytes)
  /-- SINGLE_NAL_T14. Type 14: single NAL unit (R164); sets no flag. -/
  | singleNalT14 (q : Nat) (f : Bool) (nri : BitVec 2) (body : Bytes)
  /-- SINGLE_NAL_T15. Type 15: single NAL unit (R164); sets no flag. -/
  | singleNalT15 (q : Nat) (f : Bool) (nri : BitVec 2) (body : Bytes)
  /-- SINGLE_NAL_T16. Type 16: single NAL unit (R164); sets no flag. -/
  | singleNalT16 (q : Nat) (f : Bool) (nri : BitVec 2) (body : Bytes)
  /-- SINGLE_NAL_T17. Type 17: single NAL unit (R164); sets no flag. -/
  | singleNalT17 (q : Nat) (f : Bool) (nri : BitVec 2) (body : Bytes)
  /-- SINGLE_NAL_T18. Type 18: single NAL unit (R164); sets no flag. -/
  | singleNalT18 (q : Nat) (f : Bool) (nri : BitVec 2) (body : Bytes)
  /-- SINGLE_NAL_T19. Type 19: single NAL unit (R164); sets no flag. -/
  | singleNalT19 (q : Nat) (f : Bool) (nri : BitVec 2) (body : Bytes)
  /-- SINGLE_NAL_T20. Type 20: single NAL unit (R164); sets no flag. -/
  | singleNalT20 (q : Nat) (f : Bool) (nri : BitVec 2) (body : Bytes)
  /-- SINGLE_NAL_T21. Type 21: single NAL unit (R164); sets no flag. -/
  | singleNalT21 (q : Nat) (f : Bool) (nri : BitVec 2) (body : Bytes)
  /-- SINGLE_NAL_T22. Type 22: single NAL unit (R164); sets no flag. -/
  | singleNalT22 (q : Nat) (f : Bool) (nri : BitVec 2) (body : Bytes)
  /-- SINGLE_NAL_T23. Type 23: single NAL unit (R164); sets no flag. -/
  | singleNalT23 (q : Nat) (f : Bool) (nri : BitVec 2) (body : Bytes)
  /-- STAP_A. Type 24: STAP-A (R191). -/
  | stapA (q : Nat) (f : Bool) (nri : BitVec 2) (body : Bytes)
  /-- STAP_B. Type 25: STAP-B (R192). -/
  | stapB (q : Nat) (f : Bool) (nri : BitVec 2) (body : Bytes)
  /-- MTAP_16. Type 26: MTAP-16 (R193). -/
  | mtap16 (q : Nat) (f : Bool) (nri : BitVec 2) (body : Bytes)
  /-- MTAP_24. Type 27: MTAP-24 (R194). -/
  | mtap24 (q : Nat) (f : Bool) (nri : BitVec 2) (body : Bytes)
  /-- FU_A. Type 28: FU-A (R221). -/
  | fuA (q : Nat) (f : Bool) (nri : BitVec 2) (body : Bytes)
  /-- FU_B. Type 29: FU-B (R222). -/
  | fuB (q : Nat) (f : Bool) (nri : BitVec 2) (body : Bytes)
  /-- RESERVED_T30. Type 30: reserved, ignored (R163). -/
  | reservedT30 (q : Nat) (f : Bool) (nri : BitVec 2) (body : Bytes)
  /-- RESERVED_T31. Type 31: reserved, ignored (R163). -/
  | reservedT31 (q : Nat) (f : Bool) (nri : BitVec 2) (body : Bytes)
  /-- PACKETIZE. Code 0x01 (R100): `nal` is `none` for ABSENT, `mtu` is `none` for DEFAULT, `frame` the Frame reference. -/
  | packetize (nal : Option Bytes) (mtu : Option Nat) (frame : Nat)
  /-- DEPACKETIZE. Code 0x02 (R130). -/
  | depacketize (frame : Nat)
  /-- RELEASE_BUFFER. Code 0x03 (R139). -/
  | releaseBuffer
  /-- BUF_READ. Code 0x04 (R140). -/
  | bufRead (n : Nat)
  /-- BUF_SEEK. Code 0x05 (R141). -/
  | bufSeek (pos : Nat)
  /-- READ_REG. Code 0x06 (R142). -/
  | readReg (r : Nat)
deriving DecidableEq, Repr

end Sys2Proof
end

