-- ==== Sys2Proof/WellFormed.lean ====
section
/-! DEFINITION. Which instructions are well formed. The packet-type rows of spec/opcode_table.json apply to payloads of
3 bytes or more (spec/42_dispatch.md R160), so the payload after byte 0 has at least 2 bytes. Host commands carry
typed operands and have no ill-formed term. -/

namespace Sys2Proof

/-- The one check of a packet-type row: at least 2 payload bytes follow byte 0 (R160). -/
def bodyLongEnough (body : Bytes) : Bool := 2 ≤ body.length

/-- The well-formedness of an instruction. -/
def Instr.wf : Instr → Bool
  | .reservedT0 _ _ _ body => bodyLongEnough body
  | .singleNalT1Slice _ _ _ body => bodyLongEnough body
  | .singleNalT2 _ _ _ body => bodyLongEnough body
  | .singleNalT3 _ _ _ body => bodyLongEnough body
  | .singleNalT4 _ _ _ body => bodyLongEnough body
  | .singleNalT5Idr _ _ _ body => bodyLongEnough body
  | .singleNalT6Sei _ _ _ body => bodyLongEnough body
  | .singleNalT7Sps _ _ _ body => bodyLongEnough body
  | .singleNalT8Pps _ _ _ body => bodyLongEnough body
  | .singleNalT9 _ _ _ body => bodyLongEnough body
  | .singleNalT10 _ _ _ body => bodyLongEnough body
  | .singleNalT11 _ _ _ body => bodyLongEnough body
  | .singleNalT12 _ _ _ body => bodyLongEnough body
  | .singleNalT13 _ _ _ body => bodyLongEnough body
  | .singleNalT14 _ _ _ body => bodyLongEnough body
  | .singleNalT15 _ _ _ body => bodyLongEnough body
  | .singleNalT16 _ _ _ body => bodyLongEnough body
  | .singleNalT17 _ _ _ body => bodyLongEnough body
  | .singleNalT18 _ _ _ body => bodyLongEnough body
  | .singleNalT19 _ _ _ body => bodyLongEnough body
  | .singleNalT20 _ _ _ body => bodyLongEnough body
  | .singleNalT21 _ _ _ body => bodyLongEnough body
  | .singleNalT22 _ _ _ body => bodyLongEnough body
  | .singleNalT23 _ _ _ body => bodyLongEnough body
  | .stapA _ _ _ body => bodyLongEnough body
  | .stapB _ _ _ body => bodyLongEnough body
  | .mtap16 _ _ _ body => bodyLongEnough body
  | .mtap24 _ _ _ body => bodyLongEnough body
  | .fuA _ _ _ body => bodyLongEnough body
  | .fuB _ _ _ body => bodyLongEnough body
  | .reservedT30 _ _ _ body => bodyLongEnough body
  | .reservedT31 _ _ _ body => bodyLongEnough body
  | .packetize _ _ _ => true
  | .depacketize _ => true
  | .releaseBuffer => true
  | .bufRead _ => true
  | .bufSeek _ => true
  | .readReg _ => true

end Sys2Proof
end

