-- ==== Sys2Proof/Decode.lean ====
section
/-! DEFINITION. The decoder and the encoder.

An instruction reaches the engine from one of two places: a packet of the snapshot, whose payload byte 0 selects the type
(spec/30_encoding.md R72, R86), or the host, whose command is a record of an 8-bit code and operands (R92). -/

namespace Sys2Proof

/-- DESIGN CHOICE (log 8), safe: the record `(code, operands)` of R92 with one slot for each operand the six commands have;
a command ignores the slots it has no operand for. `num` is `n`, `pos` or `r`. -/
structure HostCmd where
  code  : Byte
  nal   : Option Bytes := some []
  mtu   : Option Nat := some 0
  frame : Nat := 0
  num   : Nat := 0
deriving DecidableEq, Repr

/-- What the engine fetches: a packet `(q, p)` of the snapshot, or a host command. -/
inductive Fetched where
  | packet (q : Nat) (p : Bytes)
  | command (c : HostCmd)
deriving DecidableEq, Repr

/-- Why a fetched thing is no row of the table. -/
inductive DecodeError where
  /-- A payload of 2 bytes or fewer is not dispatched (R160). -/
  | shortPayload
  /-- Command codes 0x00 and 0x07 to 0xFF are illegal (R93). -/
  | illegalCode (code : Byte)
deriving DecidableEq, Repr

/-- Bit 7 of a NAL header byte, the F bit (R71). -/
def headerF (h : Byte) : Bool := h.getLsbD 7

/-- Bits 6:5 of a NAL header byte, NRI (R71). -/
def headerNri (h : Byte) : BitVec 2 := h.extractLsb' 5 2

/-- Bits 4:0 of a NAL header byte, the Type (R71), which on payload byte 0 is the dispatch field (R72). -/
def headerType (h : Byte) : BitVec 5 := h.extractLsb' 0 5

/-- The NAL header byte `F | NRI | Type` (R55, R71). -/
def headerByte (f : Bool) (nri : BitVec 2) (t : BitVec 5) : Byte := (BitVec.ofBool f ++ nri) ++ t

/-- The dispatch map (R86): the row of a packet type. The last arm is type 31, the one value of 5 bits left. -/
def packetInstr (t : BitVec 5) (q : Nat) (f : Bool) (nri : BitVec 2) (body : Bytes) : Instr :=
  match t.toNat with
  | 0 => .reservedT0 q f nri body
  | 1 => .singleNalT1Slice q f nri body
  | 2 => .singleNalT2 q f nri body
  | 3 => .singleNalT3 q f nri body
  | 4 => .singleNalT4 q f nri body
  | 5 => .singleNalT5Idr q f nri body
  | 6 => .singleNalT6Sei q f nri body
  | 7 => .singleNalT7Sps q f nri body
  | 8 => .singleNalT8Pps q f nri body
  | 9 => .singleNalT9 q f nri body
  | 10 => .singleNalT10 q f nri body
  | 11 => .singleNalT11 q f nri body
  | 12 => .singleNalT12 q f nri body
  | 13 => .singleNalT13 q f nri body
  | 14 => .singleNalT14 q f nri body
  | 15 => .singleNalT15 q f nri body
  | 16 => .singleNalT16 q f nri body
  | 17 => .singleNalT17 q f nri body
  | 18 => .singleNalT18 q f nri body
  | 19 => .singleNalT19 q f nri body
  | 20 => .singleNalT20 q f nri body
  | 21 => .singleNalT21 q f nri body
  | 22 => .singleNalT22 q f nri body
  | 23 => .singleNalT23 q f nri body
  | 24 => .stapA q f nri body
  | 25 => .stapB q f nri body
  | 26 => .mtap16 q f nri body
  | 27 => .mtap24 q f nri body
  | 28 => .fuA q f nri body
  | 29 => .fuB q f nri body
  | 30 => .reservedT30 q f nri body
  | _ => .reservedT31 q f nri body

/-- Decoding of the packet `(q, p)`: the length check first, then the dispatch on byte 0 (R160, R162). -/
def decodePacket (q : Nat) (p : Bytes) : Except DecodeError Instr :=
  match p with
  | [] => .error .shortPayload
  | h :: body =>
    if bodyLongEnough body then .ok (packetInstr (headerType h) q (headerF h) (headerNri h) body)
    else .error .shortPayload

/-- Decoding of a host command by its code (R92, R93). -/
def decodeCommand (c : HostCmd) : Except DecodeError Instr :=
  match c.code.toNat with
  | 1 => .ok (.packetize c.nal c.mtu c.frame)
  | 2 => .ok (.depacketize c.frame)
  | 3 => .ok .releaseBuffer
  | 4 => .ok (.bufRead c.num)
  | 5 => .ok (.bufSeek c.num)
  | 6 => .ok (.readReg c.num)
  | _ => .error (.illegalCode c.code)

/-- The decoder: total, and a rejection has a name. -/
def decode : Fetched → Except DecodeError Instr
  | .packet q p => decodePacket q p
  | .command c => decodeCommand c

/-- The packet of a packet-type instruction: byte 0 is `F | NRI | Type` (R71). -/
def encodePacket (t : BitVec 5) (q : Nat) (f : Bool) (nri : BitVec 2) (body : Bytes) : Fetched :=
  .packet q (headerByte f nri t :: body)

/-- The encoder: what the engine fetches for an instruction. An operand slot that a command does not have is empty. -/
def encode : Instr → Fetched
  | .reservedT0 q f nri body => encodePacket 0 q f nri body
  | .singleNalT1Slice q f nri body => encodePacket 1 q f nri body
  | .singleNalT2 q f nri body => encodePacket 2 q f nri body
  | .singleNalT3 q f nri body => encodePacket 3 q f nri body
  | .singleNalT4 q f nri body => encodePacket 4 q f nri body
  | .singleNalT5Idr q f nri body => encodePacket 5 q f nri body
  | .singleNalT6Sei q f nri body => encodePacket 6 q f nri body
  | .singleNalT7Sps q f nri body => encodePacket 7 q f nri body
  | .singleNalT8Pps q f nri body => encodePacket 8 q f nri body
  | .singleNalT9 q f nri body => encodePacket 9 q f nri body
  | .singleNalT10 q f nri body => encodePacket 10 q f nri body
  | .singleNalT11 q f nri body => encodePacket 11 q f nri body
  | .singleNalT12 q f nri body => encodePacket 12 q f nri body
  | .singleNalT13 q f nri body => encodePacket 13 q f nri body
  | .singleNalT14 q f nri body => encodePacket 14 q f nri body
  | .singleNalT15 q f nri body => encodePacket 15 q f nri body
  | .singleNalT16 q f nri body => encodePacket 16 q f nri body
  | .singleNalT17 q f nri body => encodePacket 17 q f nri body
  | .singleNalT18 q f nri body => encodePacket 18 q f nri body
  | .singleNalT19 q f nri body => encodePacket 19 q f nri body
  | .singleNalT20 q f nri body => encodePacket 20 q f nri body
  | .singleNalT21 q f nri body => encodePacket 21 q f nri body
  | .singleNalT22 q f nri body => encodePacket 22 q f nri body
  | .singleNalT23 q f nri body => encodePacket 23 q f nri body
  | .stapA q f nri body => encodePacket 24 q f nri body
  | .stapB q f nri body => encodePacket 25 q f nri body
  | .mtap16 q f nri body => encodePacket 26 q f nri body
  | .mtap24 q f nri body => encodePacket 27 q f nri body
  | .fuA q f nri body => encodePacket 28 q f nri body
  | .fuB q f nri body => encodePacket 29 q f nri body
  | .reservedT30 q f nri body => encodePacket 30 q f nri body
  | .reservedT31 q f nri body => encodePacket 31 q f nri body
  | .packetize nal mtu frame => .command { code := 0x01, nal := nal, mtu := mtu, frame := frame }
  | .depacketize frame => .command { code := 0x02, frame := frame }
  | .releaseBuffer => .command { code := 0x03 }
  | .bufRead n => .command { code := 0x04, num := n }
  | .bufSeek pos => .command { code := 0x05, num := pos }
  | .readReg r => .command { code := 0x06, num := r }

/-- DESIGN CHOICE (log 1), safe: the numbers that `fetchedOfTableWord` reads as a host command; the table's other 8-bit
numbers are payload bytes 0. -/
def isCommandWord (w : Nat) : Bool := 1 ≤ w && w ≤ 6

/-- What the 8 bits `w` of a table row stand for, operands all zero: a command with empty operands, or a packet of the
least length that is dispatched (R160), with sequence number 0 and every payload byte after byte 0 zero. -/
def fetchedOfTableWord (w : Nat) : Fetched :=
  if isCommandWord w then .command { code := BitVec.ofNat 8 w }
  else .packet 0 [BitVec.ofNat 8 w, 0, 0]

/-- The instruction that the decoder reads from the bits of a table row. Every row has 8 bits. -/
def decodeTableWord (nbits w : Nat) : Option Instr :=
  if nbits = 8 ∧ w < 256 then
    match decode (fetchedOfTableWord w) with
    | .ok i => some i
    | .error _ => none
  else none

end Sys2Proof
end

