-- ==== Sys2Proof/Machine/State.lean ====
section
/-! DEFINITION. The state of the machine (spec/10_state.md), the reasons a step can stop, and the state after reset. -/

namespace Sys2Proof.Machine

/-- Why a step faults. The architectural faults of R256 are no stop: they are the register FAULT. -/
inductive Fault where
  /-- Raised by PACKETIZE, DEPACKETIZE and the host's adding of a packet when their Frame reference names no Frame that
  the host has supplied (R283 obliges it to). DESIGN CHOICE (log 6), safe: the model stops. -/
  | noFrame (ref : Nat)
deriving DecidableEq, Repr

/-- Why a step is refused. -/
inductive Refusal where
  /-- An instruction without a meaning. No arm of `exec` answers with it. Safe. -/
  | notModelled (mnemonic : String)
  /-- Raised by every step and every instruction of an instance configured with `P_DON_SORT = 1`, to which the spec gives
  no meaning (R16). Safe. -/
  | donSortConfigured
deriving DecidableEq, Repr

/-- The causes of a skip, in the order of their codes 1 to 7 (R252). -/
inductive SkipCause where
  | short | fbit | truncDon | truncSize | truncExtra | zeroSize | truncUnit
deriving DecidableEq, Repr

/-- The faults of a programming error, in the order of their codes 1 to 6 (R256). -/
inductive FaultCode where
  | bufNotLive | badMtu | illegalCmd | overlap | bufOverflow | badSeek
deriving DecidableEq, Repr

/-- `P_DUP_KEEP`: which packet a Frame keeps of two with one sequence number (R36). -/
inductive DupKeep where
  | first | last
deriving DecidableEq, Repr

/-- A Packet record (R37). -/
structure Packet where
  seq       : Nat
  marker    : Bool
  ssrc      : Nat
  ptb       : Byte
  version   : Nat
  padding   : Bool
  extension : Bool
  payload   : Bytes
deriving DecidableEq, Repr

/-- A Frame record (R35). `pkts` is the finite map from sequence number to packet, as the list of its packets in ascending
order of `seq`, the key of each (R36). `dupKeep` is the Frame's `P_DUP_KEEP` (R33). -/
structure Frame where
  pkts    : List Packet
  highest : Nat
  ssrc    : Nat
  ptb     : Byte
  dupKeep : DupKeep
deriving DecidableEq, Repr

/-- The transient registers, which live only inside one command (R20). -/
structure Work where
  /-- `PKTS`, the snapshot of a DEPACKETIZE (R38). -/
  pkts : List (Nat × Bytes)
  /-- `PKT_IDX`, the index of the current packet in `PKTS` (R23). -/
  pktIdx : Nat
  /-- `CUR`, the byte cursor into the current payload (R23). Only the aggregation rules give it a start value (R190); every
  other packet leaves it as it was (DESIGN CHOICE, log 17). -/
  cur : Nat
  /-- `STAGE`, the staged output of the current packet (R27). -/
  stage : Bytes
  /-- `SFLAGS`, the staged flags of the current packet (R27). -/
  sflags : Byte
  /-- `L`, the length of PACKETIZE's NAL (R34). -/
  len : Nat
  /-- `H`, the header byte of PACKETIZE's NAL (R34). -/
  hdr : Byte
  /-- `O`, the offset of PACKETIZE's current fragment (R34). -/
  off : Nat
  /-- The model's own: the reference of the Frame that the DEPACKETIZE in flight uses (R285). -/
  frame : Nat
deriving DecidableEq, Repr

/-- The model's own: what a command returned to the host (the result column of R92). -/
inductive Reply where
  /-- The command returned, and its result is "none"; or nothing has returned yet. -/
  | none
  /-- PACKETIZE: the updated Frame. -/
  | frame (F : Frame)
  /-- DEPACKETIZE: `FLAGS`. -/
  | flags (b : Byte)
  /-- BUF_READ: the bytes read. -/
  | bytes (bs : Bytes)
  /-- READ_REG: the register's value. -/
  | value (n : Nat)
  /-- The command was refused because `FAULT` was not 0 (R257). -/
  | refused
  /-- The command ended in a fault (R257). -/
  | aborted
deriving DecidableEq, Repr

/-- Something the HOST does (R18): issue a command, supply a Frame (R283), add a packet to a Frame (R36), or apply reset (R280). -/
inductive HostAct where
  | command (c : HostCmd)
  | supplyFrame (ref highest ssrc : Nat) (ptb : Byte) (dupKeep : DupKeep) (packets : List Packet)
  | addPacket (ref : Nat) (P : Packet)
  | reset
deriving DecidableEq, Repr

/-- One entry of the host's program. With `overlap` the host does not wait for the ENGINE to be idle (R284, R285). -/
structure HostItem where
  overlap : Bool
  act     : HostAct
deriving DecidableEq, Repr

/-- The state: the block's registers (R20), the configuration (R33), the Frames (R35), and the model's own fields. -/
structure State where
  /-- The configuration, which no step writes (R33; log 5). -/
  config : Config
  /-- `BUSY` (R21). -/
  busy : Bool
  /-- `FAULT`, the sticky fault code (R31). -/
  fault : BitVec 8
  /-- `FLAGS` (R24). -/
  flags : Byte
  /-- `OBUF`, whose length is `OBUF_LEN` (R26). -/
  obuf : Bytes
  /-- `OBUF_STATE` (R28). -/
  obufState : BitVec 2
  /-- `RDPOS` (R29). -/
  rdpos : Nat
  /-- `SKIP_COUNT` (R30). -/
  skipCount : Nat
  /-- `LAST_SKIP_CAUSE` (R30). -/
  lastSkipCause : BitVec 8
  /-- `LAST_SKIP_SEQ` (R30). -/
  lastSkipSeq : Nat
  /-- The transient registers (R23, R27, R34, R38). -/
  work : Work
  /-- The Frames the host has supplied, by reference, in ascending order of reference (R35). -/
  frames : List (Nat × Frame)
  /-- The model's own: what the host does next (log 4). -/
  host : List HostItem
  /-- The model's own: what the last command returned (log 10). -/
  reply : Reply
  /-- The model's own: the number of the next free value (log 3). -/
  freeIdx : Nat
deriving DecidableEq, Repr

/-- The transient registers right after reset. R39 gives them "no value": these are DESIGN CHOICES (log 3), unsafe. -/
def Work.reset : Work :=
  { pkts := [], pktIdx := 0, cur := 0, stage := [], sflags := 0, len := 0, hdr := 0, off := 0, frame := 0 }

/-- The machine right after reset (R39, R281), with the configuration of R6's table, no Frame supplied and an idle host. -/
def State.reset : State :=
  { config := Config.standard, busy := false, fault := 0, flags := 0, obuf := [], obufState := 0, rdpos := 0,
    skipCount := 0, lastSkipCause := 0, lastSkipSeq := 0, work := Work.reset, frames := [], host := [],
    reply := .none, freeIdx := 0 }

end Sys2Proof.Machine
end

