-- ==== Sys2Proof/Machine/Operands.lean ====
section
/-! DEFINITION. Operand forms: slices, size fields, FU bytes, aggregation parameters (spec/30_encoding.md) and the data of
fragments (spec/40_packetizer.md). -/

namespace Sys2Proof.Machine

/-- `s[a..b)`, empty when `a >= b` (R10). -/
def slice (s : Bytes) (a b : Nat) : Bytes := (s.take b).drop a

/-- `size16(p, c)`, big-endian; `none` where fewer than 2 bytes are left, so that no byte out of range is read
(R57, R83). -/
def size16 (p : Bytes) (c : Nat) : Option Nat :=
  match p.drop c with
  | hi :: lo :: _ => some (hi.toNat <<< 8 ||| lo.toNat)
  | _ => none

/-- The start code (R7, R17). -/
def startCode : Bytes := [0x00, 0x00, 0x01]

/-- `h & 0xE0`, the F and NRI bits of a byte in place. -/
def topBits (h : Byte) : Byte := h &&& 0xE0

/-- `h & 0x1F`, the Type bits of a byte in place. -/
def typeBits (h : Byte) : Byte := h &&& 0x1F

/-- The reconstructed NAL header `h'` of a Start fragment, from the FU indicator and the FU header (R84). -/
def reconstructedHeader (ind fuh : Byte) : Byte := topBits ind ||| typeBits fuh

/-- The Start bit of an FU header, bit 7 (R74). -/
def fuStart (fuh : Byte) : Bool := fuh.getLsbD 7

/-- The FU indicator on send: F and NRI of the NAL header, type 28 (R106). -/
def fuIndicator (h : Byte) : Byte := topBits h ||| 0x1C

/-- The FU header on send: S, E, a Reserved bit of 0 and the original type (R107). -/
def fuHeader (s e : Bool) (h : Byte) : Byte :=
  (if s then 0x80 else 0x00) ||| (if e then 0x40 else 0x00) ||| typeBits h

/-- The data of the fragment at offset `o` (R108). -/
def fragmentData (nal : Bytes) (mtu o : Nat) : Bytes := slice nal (max o 1) (min (o + mtu) nal.length)

/-- The aggregation parameters `DONB` and `XTRA` of a packet type (R82). -/
structure AggParams where
  donb : Nat
  xtra : Nat
deriving DecidableEq, Repr

/-- STAP-A, type 24 (R76). -/
def stapAParams : AggParams := { donb := 0, xtra := 0 }
/-- STAP-B, type 25 (R77). -/
def stapBParams : AggParams := { donb := 2, xtra := 0 }
/-- MTAP-16, type 26 (R78; 90_conflicts.md C4). -/
def mtap16Params : AggParams := { donb := 2, xtra := 3 }
/-- MTAP-24, type 27 (R79; 90_conflicts.md C4). -/
def mtap24Params : AggParams := { donb := 2, xtra := 4 }

end Sys2Proof.Machine
end

