-- ==== Sys2Proof/Machine/Flags.lean ====
section
/-! DEFINITION. The classification flags (spec/42_dispatch.md R165, R166), the codes of skips and faults
(spec/60_exceptions.md R252, R256), the buffer states (spec/10_state.md R28) and the register map (R32). -/

namespace Sys2Proof.Machine

/-- The FLAGS bit of a NAL type (R24, R166): 0 containsSps, 1 containsPps, 2 containsSei, 3 containsSlice, 4 isIdr. -/
def flagBit (t : BitVec 5) : Option Nat :=
  match t.toNat with
  | 1 => some 3
  | 5 => some 4
  | 6 => some 2
  | 7 => some 0
  | 8 => some 1
  | _ => none

/-- Where the placeholder zero byte precedes the start code (R168). -/
def zeroByteApplies (c : Config) (h : Byte) : Bool :=
  c.zeroByte && (headerType h == 6 || headerType h == 7 || headerType h == 8)

/-- The code of a skip cause (R252). -/
def SkipCause.code : SkipCause → BitVec 8
  | .short => 1
  | .fbit => 2
  | .truncDon => 3
  | .truncSize => 4
  | .truncExtra => 5
  | .zeroSize => 6
  | .truncUnit => 7

/-- The code of a fault (R256). -/
def FaultCode.code : FaultCode → BitVec 8
  | .bufNotLive => 1
  | .badMtu => 2
  | .illegalCmd => 3
  | .overlap => 4
  | .bufOverflow => 5
  | .badSeek => 6

/-- `OBUF_STATE = NONE` (R28). -/
def bufNone : BitVec 2 := 0
/-- `OBUF_STATE = LIVE` (R28). -/
def bufLive : BitVec 2 := 1
/-- `OBUF_STATE = RELEASED` (R28). -/
def bufReleased : BitVec 2 := 2

/-- `OBUF_LEN = len(OBUF)` (R26). -/
def State.obufLen (s : State) : Nat := s.obuf.length

/-- The STATUS register (R32): reserved, LAST_SKIP_CAUSE, FAULT, reserved, BUSY, OBUF_STATE, from bit 31 down. -/
def statusWord (s : State) : BitVec 32 :=
  ((((0#8 ++ s.lastSkipCause) ++ s.fault) ++ 0#5) ++ BitVec.ofBool s.busy) ++ s.obufState

/-- The CONFIG register (R32): reserved, P_DON_SORT, P_ZERO_BYTE, P_STRICT_F, from bit 31 down. -/
def configWord (c : Config) : BitVec 32 :=
  ((0#29 ++ BitVec.ofBool c.donSort) ++ BitVec.ofBool c.zeroByte) ++ BitVec.ofBool c.strictF

/-- `REG[r]`: the register map (R32). A number not in the map reads as 0 (R142). -/
def regValue (s : State) (r : Nat) : Nat :=
  match r with
  | 0 => s.flags.toNat
  | 1 => (statusWord s).toNat
  | 2 => s.obufLen
  | 3 => s.rdpos
  | 4 => s.skipCount
  | 5 => s.lastSkipSeq
  | 6 => (configWord s.config).toNat
  | 7 => s.config.mtuDefault
  | _ => 0

end Sys2Proof.Machine
end

