-- ==== Sys2Proof/Machine/Ops.lean ====
section
/-! DEFINITION. The operations the meanings share: Frames and byte spaces (spec/10_state.md, spec/20_memory.md), the
staging primitives (spec/00_scope.md R11), taking a skip and taking a fault (spec/60_exceptions.md R251, R257), the
per-packet transaction (spec/41_depacketizer.md R133) and the priority of commands (R258). -/

namespace Sys2Proof.Machine

/-- The outcome of an instruction or a step. -/
abbrev Out := Host.Outcome State Fault Refusal

/-! ## Frames -/

/-- The canonical form of a Frame's map: sequence numbers strictly ascending (R35). -/
abbrev Frame.wf (F : Frame) : Prop := (F.pkts.map Packet.seq).Pairwise (· < ·)

/-- The canonical form of the Frames: references strictly ascending, every Frame in canonical form. -/
abbrev Memory.wf (m : List (Nat × Frame)) : Prop :=
  (m.map Prod.fst).Pairwise (· < ·) ∧ ∀ e ∈ m, e.2.wf

/-- The Frame a reference names; `none` where the host has supplied none. -/
def lookupFrame (m : List (Nat × Frame)) (ref : Nat) : Option Frame :=
  match m with
  | [] => none
  | (r, F) :: rest => if r = ref then some F else lookupFrame rest ref

/-- The Frames with `F` under `ref`, in canonical form. -/
def insertFrame (ref : Nat) (F : Frame) : List (Nat × Frame) → List (Nat × Frame)
  | [] => [(ref, F)]
  | (r, G) :: rest =>
    if ref < r then (ref, F) :: (r, G) :: rest
    else if ref = r then (ref, F) :: rest
    else (r, G) :: insertFrame ref F rest

/-- A Frame's packets with `P` stored under key `P.seq`; of two with one key, `P_DUP_KEEP` says which stays (R36). -/
def insertPacket (keep : DupKeep) (P : Packet) : List Packet → List Packet
  | [] => [P]
  | Q :: rest =>
    if P.seq < Q.seq then P :: Q :: rest
    else if P.seq = Q.seq then
      match keep with
      | .first => Q :: rest
      | .last => P :: rest
    else Q :: insertPacket keep P rest

/-- `addPacket(F, P)` (R36). -/
def addPacket (F : Frame) (P : Packet) : Frame :=
  { F with pkts := insertPacket F.dupKeep P F.pkts, highest := max F.highest P.seq }

/-- `distinctPackets(F)`: the packets in ascending key order, each key once (R36). -/
def distinctPackets (F : Frame) : List Packet := F.pkts

/-- The snapshot of `distinctPackets(F)` as (seq, payload) pairs (R38, R132). -/
def snapshot (F : Frame) : List (Nat × Bytes) := (distinctPackets F).map fun P => (P.seq, P.payload)

/-- The Frame a host supplies: its packets stored one after the other, its `highest` as the host gives it (R35, R283). -/
def suppliedFrame (highest ssrc : Nat) (ptb : Byte) (keep : DupKeep) (packets : List Packet) : Frame :=
  { pkts := packets.foldl (fun m P => insertPacket keep P m) [], highest := highest, ssrc := ssrc, ptb := ptb,
    dupKeep := keep }

/-- The state with `F` under `ref`. -/
def setFrame (ref : Nat) (F : Frame) (s : State) : State := { s with frames := insertFrame ref F s.frames }

/-! ## Byte spaces -/

/-- The byte spaces of R50 that State holds. `NAL` is an operand of PACKETIZE. -/
inductive Space where
  /-- The payload of the current packet. -/
  | payload
  /-- The output buffer. -/
  | obuf
  /-- The staging sequence. -/
  | stage
  /-- The payload of the packet `seq` of the Frame `ref`. -/
  | frame (ref seq : Nat)
deriving DecidableEq, Repr

/-- `MemRead(space, i, 1)` (R11, R50); `none` out of range (R57). -/
def readByte (s : State) (sp : Space) (i : Nat) : Option Byte :=
  match sp with
  | .payload => (s.work.pkts[s.work.pktIdx]?).bind fun e => e.2[i]?
  | .obuf => s.obuf[i]?
  | .stage => s.work.stage[i]?
  | .frame ref seq =>
    (lookupFrame s.frames ref).bind fun F => (F.pkts.find? fun P => P.seq == seq).bind fun P => P.payload[i]?

/-! ## Staging (R11, R27) -/

/-- `STAGE <- []; SFLAGS <- 0x00`, at the start of a packet, and when a commit consumes or a skip discards them (R27; log 9). -/
def clearStage (s : State) : State := { s with work := { s.work with stage := [], sflags := 0 } }

/-- `StageAppend(bs)`. -/
def stageAppend (bs : Bytes) (s : State) : State :=
  { s with work := { s.work with stage := s.work.stage ++ bs } }

/-- `StageFlag(b)`: sets bit `b` of SFLAGS. -/
def stageFlag (b : Nat) (s : State) : State :=
  { s with work := { s.work with sflags := s.work.sflags ||| (1#8 <<< b) } }

/-- `CUR <- c`. -/
def setCur (c : Nat) (s : State) : State := { s with work := { s.work with cur := c } }

/-- `Classify(h)` (R165). -/
def classify (h : Byte) (s : State) : State :=
  match flagBit (headerType h) with
  | some b => stageFlag b s
  | none => s

/-- The placeholder zero byte, where it applies, then the start code (R167, R168). -/
def recordHead (c : Config) (h : Byte) : Bytes := (if zeroByteApplies c h then [0x00] else []) ++ startCode

/-- `EmitUnit(u)` (R167). A unit has at least one byte; an empty one would be a size of 0 (R197). -/
def emitUnit (u : Bytes) (s : State) : Except SkipCause State :=
  match u with
  | [] => .error .zeroSize
  | h :: _ =>
    if s.config.strictF && headerF h then .error .fbit
    else .ok (stageAppend u (stageAppend (recordHead s.config h) (classify h s)))

/-! ## Free values (log 3) -/

/-- The end of a DEPACKETIZE: its transient registers are undefined from here on (R23, R27, R39). -/
def forgetCall (s : State) : State :=
  { s with
    work := { s.work with
      pkts := Config.undefPkts s.freeIdx, pktIdx := Config.undefNat s.freeIdx, cur := Config.undefNat (s.freeIdx + 1),
      stage := Config.undefBytes s.freeIdx, sflags := Config.undefByte s.freeIdx,
      frame := Config.undefNat (s.freeIdx + 2) }
    freeIdx := s.freeIdx + 3 }

/-- The end of a PACKETIZE: its transient registers are undefined from here on (R34). -/
def forgetPacketizer (s : State) : State :=
  { s with
    work := { s.work with
      len := Config.undefNat s.freeIdx, hdr := Config.undefByte s.freeIdx, off := Config.undefNat (s.freeIdx + 1) }
    freeIdx := s.freeIdx + 2 }

/-! ## Taking a skip and taking a fault -/

/-- `LogSkip(cause, q)` (R253). -/
def logSkip (c : SkipCause) (q : Nat) (s : State) : State :=
  { s with skipCount := s.skipCount + 1, lastSkipCause := c.code, lastSkipSeq := q }

/-- Taking a skip (R251): from the state before the packet, the staging registers are discarded and the skip is logged. -/
def takeSkip (c : SkipCause) (q : Nat) (s : State) : State := logSkip c q (clearStage s)

/-- R257, step 1: the first fault's code is kept. The command returns no result. -/
def recordFault (c : FaultCode) (s : State) : State :=
  { s with fault := if s.fault = 0 then c.code else s.fault, reply := .aborted }

/-- Taking a fault (R257): the code is recorded and the command ends, with its earlier writes kept. -/
def takeFault (c : FaultCode) (s : State) : State := { recordFault c s with busy := false }

/-- Taking a fault that ends a DEPACKETIZE in flight (R135, R285). -/
def abortCall (c : FaultCode) (s : State) : State := forgetCall (takeFault c s)

/-! ## The per-packet transaction -/

/-- Whether `n` bytes exceed the capacity of OBUF (R134). -/
def exceedsCap (c : Config) (n : Nat) : Bool :=
  match c.bufCap with
  | none => false
  | some k => k < n

/-- `Commit()` (R134). -/
def commit (s : State) : Except FaultCode State :=
  if exceedsCap s.config (s.obufLen + s.work.stage.length) then .error .bufOverflow
  else .ok (clearStage { s with obuf := s.obuf ++ s.work.stage, flags := s.flags ||| s.work.sflags })

/-- `PKT_IDX` advances by 1 after each packet, committed or skipped (R23). -/
def nextPacket (s : State) : State := { s with work := { s.work with pktIdx := s.work.pktIdx + 1 } }

/-- `ParsePacket(p)` up to the dispatch (R160, R161), `parse` being the rule the dispatch selects. -/
def parsePacket (parse : Bytes → State → Except SkipCause State) (p : Bytes) (s : State) : Except SkipCause State :=
  match p with
  | h :: _ :: _ :: _ => if s.config.strictF && headerF h then .error .fbit else parse p s
  | _ => .error .short

/-- `PacketTransaction(q, p)` (R133): committed whole, rolled back whole, or ended by a fault at commit (R135, R259). -/
def packetTransaction (parse : Bytes → State → Except SkipCause State) (q : Nat) (p : Bytes) (s : State) : State :=
  match parsePacket parse p (clearStage s) with
  | .error c => nextPacket (takeSkip c q s)
  | .ok s1 =>
    match commit s1 with
    | .error c => abortCall c s1
    | .ok s2 => nextPacket s2

/-- An instance configured with `P_DON_SORT = 1` is refused (R16). -/
def accepted (s : State) (k : State → Out) : Out :=
  if s.config.donSort then .refused .donSortConfigured else k s

/-- The packet step of a packet type whose parsing rule is `parse`. -/
def runPacket (parse : Bytes → State → Except SkipCause State) (q : Nat) (p : Bytes) (s : State) : Out :=
  accepted s fun s => .next (packetTransaction parse q p s)

/-! ## Commands -/

/-- What a command returns to the host (R92). -/
def returns (r : Reply) (s : State) : State := { s with reply := r }

/-- The priority of the conditions when a command is issued (R258): `BUSY`, then `FAULT`, then the command itself. An
overlapping command ends in a fault while the DEPACKETIZE in flight keeps running, so BUSY stays 1 (R258, R287; log 7).
`exempt` marks READ_REG and RELEASE_BUFFER (R257). -/
def issue (exempt : Bool) (s : State) (k : State → Out) : Out :=
  accepted s fun s =>
    if s.busy then .next (recordFault .overlap s)
    else if s.fault ≠ 0 ∧ exempt = false then .next (returns .refused s)
    else k s

/-- A command that uses a Frame gets the Frame its reference names. -/
def withFrame (ref : Nat) (s : State) (k : Frame → Out) : Out :=
  match lookupFrame s.frames ref with
  | some F => k F
  | none => .fault (.noFrame ref)

/-- A command with an illegal code (R93), after the conditions that come before it (R258). -/
def illegalCommand (s : State) : Out := issue false s fun s => .next (takeFault .illegalCmd s)

/-- A packet of 2 bytes or fewer, which is not dispatched (R160). -/
def shortPacket (q : Nat) (p : Bytes) (s : State) : Out := runPacket (fun _ s => .ok s) q p s

/-- Reset (R281, R282): every register at its reset value; the configuration, the Frames and the host's program stay, and
the free values already used are not used again. -/
def resetBlock (s : State) : State :=
  { State.reset with config := s.config, frames := s.frames, host := s.host, freeIdx := s.freeIdx }

/-- The effect on the Frames of a host that stores `F` under `ref`. A Frame that a DEPACKETIZE in flight uses must not
change: that command raises OVERLAP and ends (R285). -/
def hostSetsFrame (ref : Nat) (F : Frame) (s : State) : State :=
  if s.busy ∧ s.work.frame = ref then abortCall .overlap (setFrame ref F s) else setFrame ref F s

end Sys2Proof.Machine
end

