-- ==== Sys2Proof/Machine/Aggregation.lean ====
section
/-! DEFINITION. The STAP/MTAP aggregation unpacker (spec/43_aggregation.md). -/

namespace Sys2Proof.Machine

/-- The loop of `Aggregate` (R190), one unit a turn: the size field, the extra bytes, a size of 0, the unit's bounds, the
unit. Every turn advances CUR, so `p.length` turns are enough (R195). -/
def aggregateUnits (p : Bytes) (xtra : Nat) : Nat → State → Except SkipCause State
  | 0, s => .ok s
  | turns + 1, s =>
    if p.length ≤ s.work.cur then .ok s
    else
      match size16 p s.work.cur with
      | none => .error .truncSize
      | some size =>
        let c := s.work.cur + 2 + xtra
        if p.length < c then .error .truncExtra
        else if size = 0 then .error .zeroSize
        else if p.length < c + size then .error .truncUnit
        else
          match emitUnit (slice p c (c + size)) s with
          | .error e => .error e
          | .ok s' => aggregateUnits p xtra turns (setCur (c + size) s')

/-- `Aggregate(p, DONB, XTRA)` (R190): skip the indicator and the DON, then the units. -/
def aggregate (a : AggParams) (p : Bytes) (s : State) : Except SkipCause State :=
  if p.length < 1 + a.donb then .error .truncDon
  else aggregateUnits p a.xtra p.length (setCur (1 + a.donb) s)

/-- STAP_A, type 24 (R191). -/
def execStapA (q : Nat) (f : Bool) (nri : BitVec 2) (body : Bytes) (s : State) : Out :=
  runPacket (aggregate stapAParams) q (headerByte f nri 24 :: body) s

/-- STAP_B, type 25 (R192). -/
def execStapB (q : Nat) (f : Bool) (nri : BitVec 2) (body : Bytes) (s : State) : Out :=
  runPacket (aggregate stapBParams) q (headerByte f nri 25 :: body) s

/-- MTAP_16, type 26 (R193). -/
def execMtap16 (q : Nat) (f : Bool) (nri : BitVec 2) (body : Bytes) (s : State) : Out :=
  runPacket (aggregate mtap16Params) q (headerByte f nri 26 :: body) s

/-- MTAP_24, type 27 (R194). -/
def execMtap24 (q : Nat) (f : Bool) (nri : BitVec 2) (body : Bytes) (s : State) : Out :=
  runPacket (aggregate mtap24Params) q (headerByte f nri 27 :: body) s

end Sys2Proof.Machine
end

