-- ==== Sys2Proof/Machine/Depacketizer.lean ====
section
/-! DEFINITION. DEPACKETIZE: call start and call end (spec/41_depacketizer.md R130 to R138). Its packets are the packet-type
instructions, one step each (spec/00_scope.md R15, spec/70_reset_and_hazards.md R287; log 2). -/

namespace Sys2Proof.Machine

/-- `CallStart()` (R131). -/
def callStart (s : State) : State :=
  { s with
    obuf := [], rdpos := 0, obufState := bufLive, flags := 0, skipCount := 0, lastSkipCause := 0, lastSkipSeq := 0 }

/-- Call start, the snapshot, and BUSY for as long as the call lasts (R131, R132, R287). No rule names `CUR` here: it stays as
it was (DESIGN CHOICE, unsafe, log 17). -/
def beginCall (frame : Nat) (F : Frame) (s : State) : State :=
  { callStart s with
    busy := true, reply := .none,
    work := { s.work with pkts := snapshot F, pktIdx := 0, frame := frame } }

/-- Call end (R136): the read position at the start, BUSY 0, `FLAGS` returned; the transient registers hold no value. -/
def callEnd (s : State) : State :=
  forgetCall (returns (.flags s.flags) { s with rdpos := 0, busy := false })

/-- DEPACKETIZE(F) (R130), up to its first packet. -/
def execDepacketize (frame : Nat) (s : State) : Out :=
  issue false s fun s => withFrame frame s fun F => .next (beginCall frame F s)

end Sys2Proof.Machine
end

