-- ==== Sys2Proof/Machine/Fragmentation.lean ====
section
/-! DEFINITION. The FU-A/FU-B reassembly (spec/44_fragmentation.md). -/

namespace Sys2Proof.Machine

/-- The record head of a Start fragment: the reconstructed header is classified and written after the start code, with no
placeholder zero byte (R223, R228). A continuation writes none (R224). -/
def fragmentHead (ind fuh : Byte) (s : State) : State :=
  if fuStart fuh then
    stageAppend (startCode ++ [reconstructedHeader ind fuh]) (classify (reconstructedHeader ind fuh) s)
  else s

/-- `Fragment(p, DON)` (R220). A payload here has at least 3 bytes (R160); FU-B needs 4 for its DON (R222). R220's cursor `D`
is read as a local value, not as the register `CUR` of R23, so `CUR` stays as it was (DESIGN CHOICE, unsafe, log 17). -/
def fragment (don : Bool) (p : Bytes) (s : State) : Except SkipCause State :=
  match don, p with
  | false, ind :: fuh :: data => .ok (stageAppend data (fragmentHead ind fuh s))
  | true, ind :: fuh :: _ :: _ :: data => .ok (stageAppend data (fragmentHead ind fuh s))
  | true, _ :: _ :: _ => .error .truncDon
  | _, _ => .error .short

/-- FU_A, type 28 (R221). -/
def execFuA (q : Nat) (f : Bool) (nri : BitVec 2) (body : Bytes) (s : State) : Out :=
  runPacket (fragment false) q (headerByte f nri 28 :: body) s

/-- FU_B, type 29 (R222). -/
def execFuB (q : Nat) (f : Bool) (nri : BitVec 2) (body : Bytes) (s : State) : Out :=
  runPacket (fragment true) q (headerByte f nri 29 :: body) s

end Sys2Proof.Machine
end

