-- ==== Sys2Proof/Machine/HostAccess.lean ====
section
/-! DEFINITION. RELEASE_BUFFER, BUF_READ, BUF_SEEK and READ_REG (spec/41_depacketizer.md R139 to R142). -/

namespace Sys2Proof.Machine

/-- RELEASE_BUFFER (R139), accepted while `FAULT` is not 0. -/
def execReleaseBuffer (s : State) : Out :=
  issue true s fun s => .next (returns .none { s with obuf := [], rdpos := 0, obufState := bufReleased })

/-- The number of bytes that BUF_READ `n` reads (R140). -/
def readCount (n : Nat) (s : State) : Nat := min n (s.obufLen - s.rdpos)

/-- BUF_READ `n` (R140). -/
def execBufRead (n : Nat) (s : State) : Out :=
  issue false s fun s =>
    if s.obufState ≠ bufLive then .next (takeFault .bufNotLive s)
    else .next (returns (.bytes (slice s.obuf s.rdpos (s.rdpos + readCount n s)))
      { s with rdpos := s.rdpos + readCount n s })

/-- BUF_SEEK `pos` (R141). -/
def execBufSeek (pos : Nat) (s : State) : Out :=
  issue false s fun s =>
    if s.obufState ≠ bufLive then .next (takeFault .bufNotLive s)
    else if s.obufLen < pos then .next (takeFault .badSeek s)
    else .next (returns .none { s with rdpos := pos })

/-- READ_REG `r` (R142), accepted while `FAULT` is not 0. -/
def execReadReg (r : Nat) (s : State) : Out :=
  issue true s fun s => .next (returns (.value (regValue s r)) s)

end Sys2Proof.Machine
end

