-- ==== Sys2Proof/Machine/Packetizer.lean ====
section
/-! DEFINITION. PACKETIZE, the MTU-bounded fragmentation engine (spec/40_packetizer.md). -/

namespace Sys2Proof.Machine

/-- The Packet record that `Emit` builds (R94, R110, R111). -/
def emittedPacket (F : Frame) (payload : Bytes) (marker : Bool) : Packet :=
  { seq := F.highest + 1, marker := marker, ssrc := F.ssrc, ptb := F.ptb, version := 2, padding := false,
    extension := false, payload := payload }

/-- `Emit(F, payload, marker)` on the Frame itself (R110). -/
def emitTo (F : Frame) (payload : Bytes) (marker : Bool) : Frame := addPacket F (emittedPacket F payload marker)

/-- `Emit` on the Frame that `ref` names. -/
def emit (ref : Nat) (payload : Bytes) (marker : Bool) (s : State) : State :=
  match lookupFrame s.frames ref with
  | some F => setFrame ref (emitTo F payload marker) s
  | none => s

/-- The payload of the FU-A fragment at offset `O` (R105 to R108), from the registers `L`, `H` and `O`. -/
def fragmentPayload (nal : Bytes) (mtu : Nat) (w : Work) : Bytes :=
  [fuIndicator w.hdr, fuHeader (w.off == 0) (w.len ≤ w.off + mtu) w.hdr] ++ fragmentData nal mtu w.off

/-- The loop of FragmentPath (R105), one fragment a turn. With `mtu >= 1` it ends within `L` turns. -/
def fragmentLoop (nal : Bytes) (mtu ref : Nat) : Nat → State → State
  | 0, s => s
  | turns + 1, s =>
    if s.work.off < s.work.len then
      let s' := emit ref (fragmentPayload nal mtu s.work) (s.work.len ≤ s.work.off + mtu) s
      fragmentLoop nal mtu ref turns { s' with work := { s'.work with off := s'.work.off + mtu } }
    else s

/-- PACKETIZE returns the updated Frame (R92); its registers hold no value afterwards (R34). -/
def endPacketize (ref : Nat) (s : State) : Out :=
  withFrame ref s fun F => .next (forgetPacketizer (returns (.frame F) s))

/-- The path of a non-empty NAL with `mtu >= 1` (R103): `L < mtu` single (R104), else fragments (R105). -/
def packetizePath (nal : Bytes) (h : Byte) (mtu ref : Nat) (s : State) : State :=
  let s1 := { s with work := { s.work with len := nal.length, hdr := h } }
  if nal.length < mtu then emit ref nal true s1
  else fragmentLoop nal mtu ref nal.length { s1 with work := { s1.work with off := 0 } }

/-- PACKETIZE(nal, mtu, F) (R100): an empty or absent NAL is a no-op (R101), then `mtu = 0` is a fault (R102). -/
def execPacketize (nal : Option Bytes) (mtu : Option Nat) (frame : Nat) (s : State) : Out :=
  issue false s fun s =>
    withFrame frame s fun F =>
      match nal.getD [] with
      | [] => .next (returns (.frame F) s)
      | h :: body =>
        if mtu.getD s.config.mtuDefault = 0 then .next (takeFault .badMtu s)
        else endPacketize frame (packetizePath (h :: body) h (mtu.getD s.config.mtuDefault) frame s)

end Sys2Proof.Machine
end

