-- ==== Sys2Proof/Machine/Reserved.lean ====
section
/-! DEFINITION. The reserved types 0, 30 and 31 (spec/42_dispatch.md R163). -/

namespace Sys2Proof.Machine

/-- `Reserved(p)`: nothing is staged, and it is no skip (R163, R254). R163 gives `CUR` no start value (R23): it stays as it
was (DESIGN CHOICE, unsafe, log 17). -/
def reserved (_p : Bytes) (s : State) : Except SkipCause State := .ok s

/-- RESERVED_T0, type 0 (R163). -/
def execReservedT0 (q : Nat) (f : Bool) (nri : BitVec 2) (body : Bytes) (s : State) : Out :=
  runPacket reserved q (headerByte f nri 0 :: body) s

/-- RESERVED_T30, type 30 (R163). -/
def execReservedT30 (q : Nat) (f : Bool) (nri : BitVec 2) (body : Bytes) (s : State) : Out :=
  runPacket reserved q (headerByte f nri 30 :: body) s

/-- RESERVED_T31, type 31 (R163). -/
def execReservedT31 (q : Nat) (f : Bool) (nri : BitVec 2) (body : Bytes) (s : State) : Out :=
  runPacket reserved q (headerByte f nri 31 :: body) s

end Sys2Proof.Machine
end

