-- ==== Sys2Proof/Machine/SingleNal.lean ====
section
/-! DEFINITION. The single NAL unit packets, types 1 to 23 (spec/42_dispatch.md R164). -/

namespace Sys2Proof.Machine

/-- `SingleNal(p)`: the whole payload is one NAL unit (R164). R23 lets the parsing rule give `CUR` its start value, and R164
gives none: `CUR` stays as it was (DESIGN CHOICE, unsafe, log 17). -/
def singleNal (p : Bytes) (s : State) : Except SkipCause State := emitUnit p s

/-- SINGLE_NAL_T1_SLICE, type 1 (R164). -/
def execSingleNalT1Slice (q : Nat) (f : Bool) (nri : BitVec 2) (body : Bytes) (s : State) : Out :=
  runPacket singleNal q (headerByte f nri 1 :: body) s

/-- SINGLE_NAL_T2, type 2 (R164). -/
def execSingleNalT2 (q : Nat) (f : Bool) (nri : BitVec 2) (body : Bytes) (s : State) : Out :=
  runPacket singleNal q (headerByte f nri 2 :: body) s

/-- SINGLE_NAL_T3, type 3 (R164). -/
def execSingleNalT3 (q : Nat) (f : Bool) (nri : BitVec 2) (body : Bytes) (s : State) : Out :=
  runPacket singleNal q (headerByte f nri 3 :: body) s

/-- SINGLE_NAL_T4, type 4 (R164). -/
def execSingleNalT4 (q : Nat) (f : Bool) (nri : BitVec 2) (body : Bytes) (s : State) : Out :=
  runPacket singleNal q (headerByte f nri 4 :: body) s

/-- SINGLE_NAL_T5_IDR, type 5 (R164). -/
def execSingleNalT5Idr (q : Nat) (f : Bool) (nri : BitVec 2) (body : Bytes) (s : State) : Out :=
  runPacket singleNal q (headerByte f nri 5 :: body) s

/-- SINGLE_NAL_T6_SEI, type 6 (R164). -/
def execSingleNalT6Sei (q : Nat) (f : Bool) (nri : BitVec 2) (body : Bytes) (s : State) : Out :=
  runPacket singleNal q (headerByte f nri 6 :: body) s

/-- SINGLE_NAL_T7_SPS, type 7 (R164). -/
def execSingleNalT7Sps (q : Nat) (f : Bool) (nri : BitVec 2) (body : Bytes) (s : State) : Out :=
  runPacket singleNal q (headerByte f nri 7 :: body) s

/-- SINGLE_NAL_T8_PPS, type 8 (R164). -/
def execSingleNalT8Pps (q : Nat) (f : Bool) (nri : BitVec 2) (body : Bytes) (s : State) : Out :=
  runPacket singleNal q (headerByte f nri 8 :: body) s

/-- SINGLE_NAL_T9, type 9 (R164). -/
def execSingleNalT9 (q : Nat) (f : Bool) (nri : BitVec 2) (body : Bytes) (s : State) : Out :=
  runPacket singleNal q (headerByte f nri 9 :: body) s

/-- SINGLE_NAL_T10, type 10 (R164). -/
def execSingleNalT10 (q : Nat) (f : Bool) (nri : BitVec 2) (body : Bytes) (s : State) : Out :=
  runPacket singleNal q (headerByte f nri 10 :: body) s

/-- SINGLE_NAL_T11, type 11 (R164). -/
def execSingleNalT11 (q : Nat) (f : Bool) (nri : BitVec 2) (body : Bytes) (s : State) : Out :=
  runPacket singleNal q (headerByte f nri 11 :: body) s

/-- SINGLE_NAL_T12, type 12 (R164). -/
def execSingleNalT12 (q : Nat) (f : Bool) (nri : BitVec 2) (body : Bytes) (s : State) : Out :=
  runPacket singleNal q (headerByte f nri 12 :: body) s

/-- SINGLE_NAL_T13, type 13 (R164). -/
def execSingleNalT13 (q : Nat) (f : Bool) (nri : BitVec 2) (body : Bytes) (s : State) : Out :=
  runPacket singleNal q (headerByte f nri 13 :: body) s

/-- SINGLE_NAL_T14, type 14 (R164). -/
def execSingleNalT14 (q : Nat) (f : Bool) (nri : BitVec 2) (body : Bytes) (s : State) : Out :=
  runPacket singleNal q (headerByte f nri 14 :: body) s

/-- SINGLE_NAL_T15, type 15 (R164). -/
def execSingleNalT15 (q : Nat) (f : Bool) (nri : BitVec 2) (body : Bytes) (s : State) : Out :=
  runPacket singleNal q (headerByte f nri 15 :: body) s

/-- SINGLE_NAL_T16, type 16 (R164). -/
def execSingleNalT16 (q : Nat) (f : Bool) (nri : BitVec 2) (body : Bytes) (s : State) : Out :=
  runPacket singleNal q (headerByte f nri 16 :: body) s

/-- SINGLE_NAL_T17, type 17 (R164). -/
def execSingleNalT17 (q : Nat) (f : Bool) (nri : BitVec 2) (body : Bytes) (s : State) : Out :=
  runPacket singleNal q (headerByte f nri 17 :: body) s

/-- SINGLE_NAL_T18, type 18 (R164). -/
def execSingleNalT18 (q : Nat) (f : Bool) (nri : BitVec 2) (body : Bytes) (s : State) : Out :=
  runPacket singleNal q (headerByte f nri 18 :: body) s

/-- SINGLE_NAL_T19, type 19 (R164). -/
def execSingleNalT19 (q : Nat) (f : Bool) (nri : BitVec 2) (body : Bytes) (s : State) : Out :=
  runPacket singleNal q (headerByte f nri 19 :: body) s

/-- SINGLE_NAL_T20, type 20 (R164). -/
def execSingleNalT20 (q : Nat) (f : Bool) (nri : BitVec 2) (body : Bytes) (s : State) : Out :=
  runPacket singleNal q (headerByte f nri 20 :: body) s

/-- SINGLE_NAL_T21, type 21 (R164). -/
def execSingleNalT21 (q : Nat) (f : Bool) (nri : BitVec 2) (body : Bytes) (s : State) : Out :=
  runPacket singleNal q (headerByte f nri 21 :: body) s

/-- SINGLE_NAL_T22, type 22 (R164). -/
def execSingleNalT22 (q : Nat) (f : Bool) (nri : BitVec 2) (body : Bytes) (s : State) : Out :=
  runPacket singleNal q (headerByte f nri 22 :: body) s

/-- SINGLE_NAL_T23, type 23 (R164). -/
def execSingleNalT23 (q : Nat) (f : Bool) (nri : BitVec 2) (body : Bytes) (s : State) : Out :=
  runPacket singleNal q (headerByte f nri 23 :: body) s

end Sys2Proof.Machine
end

