-- ==== Sys2Proof/Machine/Dispatch.lean ====
section
/-! DEFINITION. The meaning of every instruction, one arm each. -/

namespace Sys2Proof.Machine

/-- One arm per constructor of `Instr`. -/
def exec (i : Instr) (s : State) : Host.Outcome State Fault Refusal :=
  match i with
  | .reservedT0 q f nri body => Sys2Proof.Machine.execReservedT0 q f nri body s
  | .singleNalT1Slice q f nri body => Sys2Proof.Machine.execSingleNalT1Slice q f nri body s
  | .singleNalT2 q f nri body => Sys2Proof.Machine.execSingleNalT2 q f nri body s
  | .singleNalT3 q f nri body => Sys2Proof.Machine.execSingleNalT3 q f nri body s
  | .singleNalT4 q f nri body => Sys2Proof.Machine.execSingleNalT4 q f nri body s
  | .singleNalT5Idr q f nri body => Sys2Proof.Machine.execSingleNalT5Idr q f nri body s
  | .singleNalT6Sei q f nri body => Sys2Proof.Machine.execSingleNalT6Sei q f nri body s
  | .singleNalT7Sps q f nri body => Sys2Proof.Machine.execSingleNalT7Sps q f nri body s
  | .singleNalT8Pps q f nri body => Sys2Proof.Machine.execSingleNalT8Pps q f nri body s
  | .singleNalT9 q f nri body => Sys2Proof.Machine.execSingleNalT9 q f nri body s
  | .singleNalT10 q f nri body => Sys2Proof.Machine.execSingleNalT10 q f nri body s
  | .singleNalT11 q f nri body => Sys2Proof.Machine.execSingleNalT11 q f nri body s
  | .singleNalT12 q f nri body => Sys2Proof.Machine.execSingleNalT12 q f nri body s
  | .singleNalT13 q f nri body => Sys2Proof.Machine.execSingleNalT13 q f nri body s
  | .singleNalT14 q f nri body => Sys2Proof.Machine.execSingleNalT14 q f nri body s
  | .singleNalT15 q f nri body => Sys2Proof.Machine.execSingleNalT15 q f nri body s
  | .singleNalT16 q f nri body => Sys2Proof.Machine.execSingleNalT16 q f nri body s
  | .singleNalT17 q f nri body => Sys2Proof.Machine.execSingleNalT17 q f nri body s
  | .singleNalT18 q f nri body => Sys2Proof.Machine.execSingleNalT18 q f nri body s
  | .singleNalT19 q f nri body => Sys2Proof.Machine.execSingleNalT19 q f nri body s
  | .singleNalT20 q f nri body => Sys2Proof.Machine.execSingleNalT20 q f nri body s
  | .singleNalT21 q f nri body => Sys2Proof.Machine.execSingleNalT21 q f nri body s
  | .singleNalT22 q f nri body => Sys2Proof.Machine.execSingleNalT22 q f nri body s
  | .singleNalT23 q f nri body => Sys2Proof.Machine.execSingleNalT23 q f nri body s
  | .stapA q f nri body => Sys2Proof.Machine.execStapA q f nri body s
  | .stapB q f nri body => Sys2Proof.Machine.execStapB q f nri body s
  | .mtap16 q f nri body => Sys2Proof.Machine.execMtap16 q f nri body s
  | .mtap24 q f nri body => Sys2Proof.Machine.execMtap24 q f nri body s
  | .fuA q f nri body => Sys2Proof.Machine.execFuA q f nri body s
  | .fuB q f nri body => Sys2Proof.Machine.execFuB q f nri body s
  | .reservedT30 q f nri body => Sys2Proof.Machine.execReservedT30 q f nri body s
  | .reservedT31 q f nri body => Sys2Proof.Machine.execReservedT31 q f nri body s
  | .packetize nal mtu frame => Sys2Proof.Machine.execPacketize nal mtu frame s
  | .depacketize frame => Sys2Proof.Machine.execDepacketize frame s
  | .releaseBuffer => Sys2Proof.Machine.execReleaseBuffer s
  | .bufRead n => Sys2Proof.Machine.execBufRead n s
  | .bufSeek pos => Sys2Proof.Machine.execBufSeek pos s
  | .readReg r => Sys2Proof.Machine.execReadReg r s

end Sys2Proof.Machine
end

