-- ==== Sys2Proof/Machine/Engine.lean ====
section
/-! DEFINITION. What the machine does next: the schedule of the HOST and the ENGINE, the fetch of a packet or a command, and
one step of either (spec/00_scope.md R15, R18; spec/70_reset_and_hazards.md R284 to R287). -/

namespace Sys2Proof.Machine

/-- What happens next. -/
inductive Event where
  /-- Nothing: the ENGINE is idle and waits for a command (R281), and the host issues none. -/
  | idle
  /-- An instruction is fetched: the current packet of the snapshot, or a command of the host. -/
  | fetched (x : Fetched)
  /-- The DEPACKETIZE in flight has no packet left (R136). -/
  | callEnd
  /-- The host stores a Frame (R283). -/
  | supplyFrame (ref : Nat) (F : Frame)
  /-- The host adds a packet to a Frame (R36). -/
  | addPacket (ref : Nat) (P : Packet)
  /-- The host applies reset (R280). -/
  | reset
deriving DecidableEq, Repr

/-- What the host's next entry does. -/
def hostEvent : HostAct → Event
  | .command c => .fetched (.command c)
  | .supplyFrame ref highest ssrc ptb keep packets =>
    .supplyFrame ref (suppliedFrame highest ssrc ptb keep packets)
  | .addPacket ref P => .addPacket ref P
  | .reset => .reset

/-- Whether a host entry lands while a command is in flight. Reset waits for the ENGINE to be idle (R280). -/
def landsWhileBusy (it : HostItem) : Bool :=
  match it.act with
  | .reset => false
  | _ => it.overlap

/-- The next packet of the DEPACKETIZE in flight, or its end (R132, R136). -/
def engineEvent (w : Work) : Event :=
  match w.pkts[w.pktIdx]? with
  | some (q, p) => .fetched (.packet q p)
  | none => .callEnd

/-- What happens next, and the state it happens in: the host's entry is taken off its program. -/
def nextEvent (s : State) : Event × State :=
  match s.host with
  | it :: rest =>
    if s.busy = false ∨ landsWhileBusy it then (hostEvent it.act, { s with host := rest })
    else (engineEvent s.work, s)
  | [] => if s.busy then (engineEvent s.work, s) else (.idle, s)

/-- A fetched thing is decoded and its instruction runs. A short packet is skipped (R160) and an illegal code faults (R93). -/
def runFetched (x : Fetched) (s : State) : Out :=
  match decode x with
  | .ok i => exec i s
  | .error .shortPayload =>
    match x with
    | .packet q p => shortPacket q p s
    | .command _ => illegalCommand s
  | .error (.illegalCode _) => illegalCommand s

/-- What an event does. -/
def runEvent (e : Event) (s : State) : Out :=
  match e with
  | .idle => .next s
  | .fetched x => runFetched x s
  | .callEnd => .next (callEnd s)
  | .supplyFrame ref F => .next (hostSetsFrame ref F s)
  | .addPacket ref P => withFrame ref s fun F => .next (hostSetsFrame ref (Sys2Proof.Machine.addPacket F P) s)
  | .reset => .next (resetBlock s)

/-- One step of an accepted instance (R16). -/
def stepEvent (s : State) : Out := accepted s fun s => runEvent (nextEvent s).1 (nextEvent s).2

/-- The state in which the next event fetches `x`: the host's next entry for a command, the only packet of a DEPACKETIZE in
flight for a packet. -/
def placeFetched (x : Fetched) (s : State) : State :=
  match x with
  | .command c => { s with busy := false, host := { overlap := false, act := .command c } :: s.host }
  | .packet q p => { s with busy := true, host := [], work := { s.work with pkts := [(q, p)], pktIdx := 0 } }

/-- The state in which a command's Frame reference 0 names a Frame, as R283 asks: an empty one, unless the host has
supplied one. -/
def withFrameSupplied (s : State) : State :=
  match lookupFrame s.frames 0 with
  | some _ => s
  | none => setFrame 0 (suppliedFrame 0 0 0 .first []) s

end Sys2Proof.Machine
end

