-- ==== Sys2Proof/Machine/Step.lean ====
section
/-! DEFINITION. One step of the machine, and the state whose next step runs a given row of the opcode table. -/

namespace Sys2Proof.Machine

/-- One step: the HOST's next entry, or the ENGINE's next packet. -/
def step (s : State) : Host.Outcome State Fault Refusal := stepEvent s

/-- `s` with the instruction that the bits of a table row stand for placed where the next step fetches. -/
def State.withFetchWord (s : State) (_nbits w : Nat) : State :=
  placeFetched (fetchedOfTableWord w) (withFrameSupplied s)

end Sys2Proof.Machine
end

