-- ==== Sys2Proof/Machine/AtomicCall.lean ====
section
/-! DEFINITION. DEPACKETIZE as the one atomic step of spec/00_scope.md R15, written from the pseudocode of
spec/41_depacketizer.md R130 and spec/42_dispatch.md R160. The machine runs the call in packet steps instead (R287, log 2);
the statements compare the two. -/

namespace Sys2Proof.Machine

/-- The parsing rule that the dispatch selects (R86, R160). -/
def parseRule (t : BitVec 5) : Bytes → State → Except SkipCause State :=
  match t.toNat with
  | 0 => reserved
  | 24 => aggregate stapAParams
  | 25 => aggregate stapBParams
  | 26 => aggregate mtap16Params
  | 27 => aggregate mtap24Params
  | 28 => fragment false
  | 29 => fragment true
  | 30 => reserved
  | 31 => reserved
  | _ => singleNal

/-- The dispatch on `p[0] & 0x1F` (R162). -/
def dispatchParse (p : Bytes) (s : State) : Except SkipCause State :=
  match p with
  | [] => .error .short
  | h :: _ => parseRule (headerType h) p s

/-- The packets of a call one after the other, then the call end; a fault at a commit ends the call (R130, R135). -/
def callPackets : List (Nat × Bytes) → State → State
  | [], s => callEnd s
  | (q, p) :: rest, s =>
    let s' := packetTransaction dispatchParse q p s
    if s'.busy then callPackets rest s' else s'

/-- DEPACKETIZE(F) in one step (R130). -/
def depacketizeAtomic (frame : Nat) (s : State) : Out :=
  issue false s fun s => withFrame frame s fun F => .next (callPackets (snapshot F) (beginCall frame F s))

end Sys2Proof.Machine
end

