-- ==== Sys2Proof/Safety.lean ====
section
/-! DEFINITION. What counts as a safe run, in the terms the statements use. -/

namespace Sys2Proof.Machine

/-- The machine is accepted (R16), idle and not faulted: a command's own checks are the next to decide (R258). -/
def State.ready (s : State) : Prop := s.config.donSort = false ∧ s.busy = false ∧ s.fault = 0

/-- The end of a run that is no faulted run: the ENGINE is idle, every command has been issued, `FAULT` is 0 (R19). -/
def State.goodEnd (s : State) : Prop := s.busy = false ∧ s.host = [] ∧ s.fault = 0

/-- What every step keeps, from every state that has it. -/
structure State.Inv (s : State) : Prop where
  /-- Every Frame is a map in canonical form (R35). -/
  frames : Memory.wf s.frames
  /-- FLAGS bits 7:5 are 0 (R24). -/
  flagsReserved : s.flags &&& 0xE0 = 0
  /-- FAULT holds a code of R256. -/
  faultCode : s.fault.toNat ≤ 6
  /-- LAST_SKIP_CAUSE holds a code of R252. -/
  causeCode : s.lastSkipCause.toNat ≤ 7
  /-- OBUF_STATE 3 is never held (R28). -/
  obufState : s.obufState ≠ 3
  /-- Without a live buffer there are no bytes to read (R40). -/
  notLive : s.obufState ≠ bufLive → s.obuf = [] ∧ s.rdpos = 0
  /-- The read position is in the buffer (R29). -/
  rdpos : s.rdpos ≤ s.obufLen
  /-- OBUF never exceeds its capacity (R135). -/
  capacity : exceedsCap s.config s.obufLen = false
  /-- The skip log is clear when no packet was skipped (R30). -/
  skipLog : s.skipCount = 0 → s.lastSkipCause = 0 ∧ s.lastSkipSeq = 0
  /-- A skipped packet has left its cause (R30, R253). -/
  skipCause : s.skipCount ≠ 0 → s.lastSkipCause ≠ 0
  /-- During a DEPACKETIZE the buffer is live and not yet readable, the snapshot is in ascending order (R38), PKT_IDX is
  within it (R23), and no more packets were skipped than were taken (R30). -/
  inCall : s.busy = true →
    s.obufState = bufLive ∧ s.rdpos = 0 ∧ (s.work.pkts.map Prod.fst).Pairwise (· < ·) ∧
      s.work.pktIdx ≤ s.work.pkts.length ∧ s.skipCount ≤ s.work.pktIdx

end Sys2Proof.Machine
end

