-- ==== Sys2Proof/Certificates/Slice0/Obligations.lean ====
section
/-! DEFINITION. The statements for the provers, and the words they are written in: what the rules of spec/ say, spelled out
from the rules and not through the meanings they are about. -/

namespace Sys2Proof.Machine.Claim

/-! ## Vocabulary -/

/-- A packet-type constructor of `Instr`: sequence number, F, NRI, payload after byte 0. -/
abbrev PacketRow := Nat → Bool → BitVec 2 → Bytes → Instr

/-- The single NAL unit rows, types 1 to 23 (R164). -/
def singleNalRows : List (BitVec 5 × PacketRow) :=
  [
   (1, .singleNalT1Slice), (2, .singleNalT2), (3, .singleNalT3), (4, .singleNalT4),
   (5, .singleNalT5Idr), (6, .singleNalT6Sei), (7, .singleNalT7Sps), (8, .singleNalT8Pps),
   (9, .singleNalT9), (10, .singleNalT10), (11, .singleNalT11), (12, .singleNalT12),
   (13, .singleNalT13), (14, .singleNalT14), (15, .singleNalT15), (16, .singleNalT16),
   (17, .singleNalT17), (18, .singleNalT18), (19, .singleNalT19), (20, .singleNalT20),
   (21, .singleNalT21), (22, .singleNalT22), (23, .singleNalT23)]

/-- The reserved rows, types 0, 30 and 31 (R163). -/
def reservedRows : List (BitVec 5 × PacketRow) :=
  [(0, .reservedT0), (30, .reservedT30), (31, .reservedT31)]

/-- All 32 packet-type rows with their types (R86). -/
def packetRows : List (BitVec 5 × PacketRow) :=
  singleNalRows ++ reservedRows ++
    [(24, .stapA), (25, .stapB), (26, .mtap16), (27, .mtap24), (28, .fuA), (29, .fuB)]

/-- The aggregation rows with `DONB` and `XTRA` (R82). -/
def aggregationRows : List (Nat × Nat × PacketRow) :=
  [(0, 0, .stapA), (2, 0, .stapB), (2, 3, .mtap16), (2, 4, .mtap24)]

/-- The FU rows with the number of DON bytes after the FU header (R80, R81). -/
def fragmentRows : List (Nat × PacketRow) := [(0, .fuA), (2, .fuB)]

/-- The FLAGS bits that a header of type `t` sets (R166). -/
def flagOfType (t : BitVec 5) : Byte :=
  if t = 1 then 0x08 else if t = 5 then 0x10 else if t = 6 then 0x04 else if t = 7 then 0x01
  else if t = 8 then 0x02 else 0x00

/-- The FLAGS bits of a NAL unit, from its header byte. -/
def flagOfUnit : Bytes → Byte
  | [] => 0x00
  | h :: _ => flagOfType (headerType h)

/-- The output record of a single or aggregated NAL unit (R85): placeholder zero byte for SEI, SPS and PPS when
`P_ZERO_BYTE = 1` (R168), start code, unit. -/
def recordOf (c : Config) : Bytes → Bytes
  | [] => []
  | h :: rest =>
    (if c.zeroByte = true ∧ (headerType h = 6 ∨ headerType h = 7 ∨ headerType h = 8) then [0x00] else []) ++
      [0x00, 0x00, 0x01] ++ h :: rest

/-- `n` more bytes fit in OBUF (R134, R135). -/
def fits (s : State) (n : Nat) : Prop := ∀ k, s.config.bufCap = some k → s.obuf.length + n ≤ k

/-- `t` is `s` after a packet that staged `bs` and `fl` was committed (R134), with CUR at `cur` and PKT_IDX advanced (R23). One
packet is one step, as R15 allows (log 2). Of STAGE and SFLAGS, which a commit consumes (R27), nothing is said. -/
def committed (bs : Bytes) (fl : Byte) (cur : Nat) (s t : State) : Prop :=
  ∃ st sf, t = { s with
    obuf := s.obuf ++ bs, flags := s.flags ||| fl,
    work := { s.work with stage := st, sflags := sf, cur := cur, pktIdx := s.work.pktIdx + 1 } }

/-- `t` is `s` after packet `q` was skipped with the cause of this code (R251, R253), with PKT_IDX advanced (R23). Of STAGE
and SFLAGS, which a skip discards, nothing is said. -/
def skippedAs (code : BitVec 8) (q : Nat) (s t : State) : Prop :=
  ∃ st sf, t = { s with
    skipCount := s.skipCount + 1, lastSkipCause := code, lastSkipSeq := q,
    work := { s.work with stage := st, sflags := sf, pktIdx := s.work.pktIdx + 1 } }

/-- What a fault of this code leaves of a DEPACKETIZE it ends (R135, R257): the first code is kept, the command is over, the
earlier commits stay. Of the transient registers nothing is said. -/
def abortedBy (code : BitVec 8) (s t : State) : Prop :=
  ∃ w k, t = { s with fault := if s.fault = 0 then code else s.fault, busy := false, reply := .aborted,
                      work := w, freeIdx := k }

/-- A 16-bit size, big-endian (R83). -/
def be16 (n : Nat) : Bytes := [BitVec.ofNat 8 (n / 256), BitVec.ofNat 8 n]

/-- One unit of an aggregation packet: size, extra bytes, NAL unit (R76 to R79). -/
def unitField (e : Bytes × Bytes) : Bytes := be16 e.2.length ++ e.1 ++ e.2

/-- A unit (extra bytes, NAL unit) that the unpacker accepts: `xtra` extra bytes, a NAL unit of 1 to 65535 bytes, and in
strict mode a clear F bit (R167, R190). -/
def goodUnit (c : Config) (xtra : Nat) (e : Bytes × Bytes) : Prop :=
  e.1.length = xtra ∧ 0 < e.2.length ∧ e.2.length < 65536 ∧
    ∀ h rest, e.2 = h :: rest → (c.strictF && headerF h) = false

/-- What may stand where a unit should start, and the code of the skip it makes (R190, R252). -/
inductive BadUnit (c : Config) (xtra : Nat) : Bytes → BitVec 8 → Prop where
  /-- One byte is left: no size field (R198). -/
  | truncSize (b : Byte) : BadUnit c xtra [b] 4
  /-- A size field, but fewer than `xtra` bytes after it (R198). -/
  | truncExtra (n : Nat) (x : Bytes) : n < 65536 → x.length < xtra → BadUnit c xtra (be16 n ++ x) 5
  /-- A size of 0 (R197). -/
  | zeroSize (x rest : Bytes) : x.length = xtra → BadUnit c xtra (be16 0 ++ x ++ rest) 6
  /-- A size that exceeds what is left (R195). -/
  | truncUnit (n : Nat) (x d : Bytes) : n < 65536 → x.length = xtra → d.length < n →
      BadUnit c xtra (be16 n ++ x ++ d) 7
  /-- In strict mode, a unit whose F bit is set (R167). -/
  | fbit (x : Bytes) (h : Byte) (u rest : Bytes) : c.strictF = true → headerF h = true → x.length = xtra →
      (h :: u).length < 65536 → BadUnit c xtra (unitField (x, h :: u) ++ rest) 2

/-- The packet record that PACKETIZE emits as its `k`-th (R94, R110): version 2, no padding, no extension, ssrc and
payload-type byte of the Frame. -/
def emitted (F : Frame) (k : Nat) (marker : Bool) (payload : Bytes) : Packet :=
  { seq := F.highest + k, marker := marker, ssrc := F.ssrc, ptb := F.ptb, version := 2, padding := false,
    extension := false, payload := payload }

/-- `ceil(a / b)` (R12). -/
def ceilDiv (a b : Nat) : Nat := (a + b - 1) / b

/-- The FU-A fragments of a NAL with header `h` at MTU `m`, as packets (R105 to R110): the `k`-th, from 0, has offset
`k * m`. -/
def fragmentPackets (F : Frame) (nal : Bytes) (h : Byte) (m : Nat) : List Packet :=
  (List.range (ceilDiv nal.length m)).map fun k =>
    emitted F (k + 1) (decide (nal.length ≤ k * m + m))
      ([(h &&& 0xE0) ||| 0x1C,
        (if k = 0 then 0x80 else 0x00) ||| (if nal.length ≤ k * m + m then 0x40 else 0x00) ||| (h &&& 0x1F)] ++
        ((nal.take (min (k * m + m) nal.length)).drop (max (k * m) 1)))

/-- No packet of the Frame has a number above `highest`, so `highest + 1` is a new key (R36). -/
def keysBelowHighest (F : Frame) : Prop := ∀ P ∈ F.pkts, P.seq ≤ F.highest

/-- `k` steps. -/
def runs (k : Nat) (s : State) : Out := Host.Core.run Sys2Proof.core k s

/-- The host program is `c`, then `rest`, and what comes first after `c` waits for the ENGINE to be idle. -/
def issues (s : State) (c : HostCmd) (rest : List HostItem) : Prop :=
  s.host = ⟨false, .command c⟩ :: rest ∧ ∀ it ∈ rest.head?, it.overlap = false

/-- What the host can see of a DEPACKETIZE (R137). -/
def sameResult (t u : State) : Prop :=
  t.obuf = u.obuf ∧ t.flags = u.flags ∧ t.skipCount = u.skipCount ∧ t.lastSkipCause = u.lastSkipCause ∧
    t.lastSkipSeq = u.lastSkipSeq ∧ t.obufState = u.obufState ∧ t.rdpos = u.rdpos ∧ t.fault = u.fault ∧
    t.reply = u.reply

/-- The register map of R32, its bit positions as powers of two. -/
def mapped (s : State) (r : Nat) : Nat :=
  if r = 0 then s.flags.toNat
  else if r = 1 then s.obufState.toNat + 4 * s.busy.toNat + 256 * s.fault.toNat + 65536 * s.lastSkipCause.toNat
  else if r = 2 then s.obuf.length
  else if r = 3 then s.rdpos
  else if r = 4 then s.skipCount
  else if r = 5 then s.lastSkipSeq
  else if r = 6 then s.config.strictF.toNat + 2 * s.config.zeroByte.toNat + 4 * s.config.donSort.toNat
  else if r = 7 then s.config.mtuDefault
  else 0

/-- What one packet contributes to OBUF and FLAGS: what a call on it alone leaves there (R143). -/
def contribution (c : Config) (p : Bytes) : Bytes × Byte :=
  let t := packetTransaction dispatchParse 0 p (callStart { State.reset with config := c })
  (t.obuf, t.flags)

end Sys2Proof.Machine.Claim

open Sys2Proof Sys2Proof.Machine Sys2Proof.Machine.Claim

/-- Decode and encode agree, for every row of the table and every operand. -/
def Obligations.DecodeOfEncodeIsTheInstruction : Prop :=
  ∀ i : Instr, i.wf = true → decode (encode i) = .ok i

/-- The dispatch of R162 is total, on the low 5 bits of byte 0 alone, and drops no bit of the payload. -/
def Obligations.EveryPacketSelectsExactlyOneRow : Prop :=
  (packetRows.map (fun row => row.1)).Nodup ∧
    (∀ (q : Nat) (h : Byte) (body : Bytes), 2 ≤ body.length →
      ∃ row ∈ packetRows, row.1.toNat = (h &&& 0x1F).toNat ∧
        decode (.packet q (h :: body)) = .ok (row.2 q (headerF h) (headerNri h) body) ∧
        (row.2 q (headerF h) (headerNri h) body).wf = true ∧
        encode (row.2 q (headerF h) (headerNri h) body) = .packet q (h :: body)) ∧
    (∀ (q : Nat) (p : Bytes), p.length ≤ 2 → decode (.packet q p) = .error .shortPayload)

/-- A few words from the tables of 30_encoding.md, decoded. -/
def Obligations.SpecWordsDecodeToTheirRows : Prop :=
  decode (.packet 9 [0x65, 0x88, 0x84]) = .ok (.singleNalT5Idr 9 false 3 [0x88, 0x84]) ∧
    decode (.packet 9 [0x78, 0x00, 0x00]) = .ok (.stapA 9 false 3 [0x00, 0x00]) ∧
    decode (.packet 9 [0x7D, 0x85, 0x00]) = .ok (.fuB 9 false 3 [0x85, 0x00]) ∧
    decode (.packet 9 [0x1E, 0x00, 0x00]) = .ok (.reservedT30 9 false 0 [0x00, 0x00]) ∧
    decode (.command { code := 0x01, nal := none, mtu := none, frame := 4 }) = .ok (.packetize none none 4) ∧
    decode (.command { code := 0x04, num := 5 }) = .ok (.bufRead 5) ∧
    decode (.command { code := 0x07 }) = .error (.illegalCode 0x07)

/-- A step is exec of the decoded instruction, in the state whose host program has lost the command fetched from it. The
schedule is the model's choice and no rule of the spec: the host program in State, and an overlapping entry that runs before
the next packet (log 4); one packet a step, as R15 and R287 allow (log 2). -/
def Obligations.StepRunsTheDecodedInstruction : Prop :=
  ∀ (s : State) (i : Instr), s.config.donSort = false →
    (∀ o c rest, s.busy = false → s.host = ⟨o, .command c⟩ :: rest → decode (.command c) = .ok i →
      step s = exec i { s with host := rest }) ∧
    (∀ c rest, s.busy = true → s.host = ⟨true, .command c⟩ :: rest → decode (.command c) = .ok i →
      step s = exec i { s with host := rest }) ∧
    (∀ q p, s.busy = true → (∀ it ∈ s.host.head?, it.overlap = false) → s.work.pkts[s.work.pktIdx]? = some (q, p) →
      decode (.packet q p) = .ok i → step s = exec i s)

/-- The reset event (R281, R282), and the idle ENGINE after it. The spec gives the transient registers no value (R39), and nothing is said of them. -/
def Obligations.ResetClearsTheBlockAndWaits : Prop :=
  (∀ (s : State) o rest, s.config.donSort = false → s.busy = false → s.host = ⟨o, .reset⟩ :: rest →
      ∃ t, step s = .next t ∧ t.busy = false ∧ t.fault = 0 ∧ t.flags = 0 ∧ t.obuf = [] ∧ t.obufState = 0 ∧
        t.rdpos = 0 ∧ t.skipCount = 0 ∧ t.lastSkipCause = 0 ∧ t.lastSkipSeq = 0 ∧
        t.config = s.config ∧ t.frames = s.frames ∧ t.host = rest) ∧
    (∀ s : State, s.config.donSort = false → s.busy = false → s.host = [] → step s = .next s) ∧
    (∀ s t : State, step s = .next t → s.fault ≠ 0 → t.fault = 0 → ∃ o rest, s.host = ⟨o, .reset⟩ :: rest)

/-- The values of R39 and of R6's table in State.reset. -/
def Obligations.ResetStateHoldsTheSpecValues : Prop :=
  State.reset.busy = false ∧ State.reset.fault = 0 ∧ State.reset.flags = 0 ∧ State.reset.obuf = [] ∧
    State.reset.obufState = 0 ∧ State.reset.rdpos = 0 ∧ State.reset.skipCount = 0 ∧
    State.reset.lastSkipCause = 0 ∧ State.reset.lastSkipSeq = 0 ∧
    State.reset.config = { mtuDefault := 1500, strictF := false, zeroByte := true, donSort := false, bufCap := none }

/-- The invariant of EveryStepKeepsTheInvariant holds at reset. -/
def Obligations.InvariantHoldsAtReset : Prop :=
  State.reset.Inv

/-- The invariant over every state and every step, whatever the host does next. -/
def Obligations.EveryStepKeepsTheInvariant : Prop :=
  ∀ s t : State, s.Inv → step s = .next t → t.Inv

/-- R33: fixed for an instance, read-only after reset. -/
def Obligations.EveryStepKeepsTheConfiguration : Prop :=
  ∀ s t : State, step s = .next t → t.config = s.config

/-- R16: the model has no meaning for such a configuration. -/
def Obligations.DonSortConfigurationIsRefused : Prop :=
  ∀ (s : State) (i : Instr), s.config.donSort = true →
    exec i s = .refused .donSortConfigured ∧ step s = .refused .donSortConfigured

/-- R164 with the classification of R166 and the zero byte of R168: the result, and the frame, as one equation. That CUR
stays as it was is the model's choice (log 17). -/
def Obligations.SingleNalUnitIsWrittenWhole : Prop :=
  ∀ row ∈ singleNalRows, ∀ q f nri body (s : State), s.config.donSort = false → 2 ≤ body.length →
    (s.config.strictF && f) = false → fits s (recordOf s.config (headerByte f nri row.1 :: body)).length →
    ∃ t, exec (row.2 q f nri body) s = .next t ∧
      committed (recordOf s.config (headerByte f nri row.1 :: body)) (flagOfType row.1) s.work.cur s t

/-- R163: no output, no flags, not a skip. That CUR stays as it was is the model's choice (log 17). -/
def Obligations.ReservedTypesAreIgnored : Prop :=
  ∀ row ∈ reservedRows, ∀ q f nri body (s : State), s.config.donSort = false → 2 ≤ body.length →
    (s.config.strictF && f) = false → fits s 0 →
    ∃ t, exec (row.2 q f nri body) s = .next t ∧ committed [] 0 s.work.cur s t

/-- R190 over every list of units, by the layouts of R76 to R79; a unit of any type is written as it stands (R196). -/
def Obligations.AggregationWritesEveryUnit : Prop :=
  ∀ row ∈ aggregationRows, ∀ q f nri don (units : List (Bytes × Bytes)) (s : State),
    s.config.donSort = false → (s.config.strictF && f) = false → don.length = row.1 →
    (∀ e ∈ units, goodUnit s.config row.2.1 e) → 2 ≤ (don ++ units.flatMap unitField).length →
    fits s (units.flatMap fun e => recordOf s.config e.2).length →
    ∃ t, exec (row.2.2 q f nri (don ++ units.flatMap unitField)) s = .next t ∧
      committed (units.flatMap fun e => recordOf s.config e.2)
        (units.foldl (fun b e => b ||| flagOfUnit e.2) 0) (1 + (don ++ units.flatMap unitField).length) s t

/-- R190 (TRUNC_UNIT) and R167 (FBIT) with R197, R198, R251 and R259: the earlier units are rolled back too (R200). -/
def Obligations.MalformedAggregationIsRolledBackWhole : Prop :=
  ∀ row ∈ aggregationRows, ∀ q f nri don (units : List (Bytes × Bytes)) tail code (s : State),
    s.config.donSort = false → (s.config.strictF && f) = false → don.length = row.1 →
    (∀ e ∈ units, goodUnit s.config row.2.1 e) → BadUnit s.config row.2.1 tail code →
    2 ≤ (don ++ units.flatMap unitField ++ tail).length →
    ∃ t, exec (row.2.2 q f nri (don ++ units.flatMap unitField ++ tail)) s = .next t ∧ skippedAs code q s t

/-- R220 with S = 1. `h'` is written as the header byte of the indicator's F and NRI and the FU header's Type (R84).
That CUR stays as it was is the model's choice (log 17). -/
def Obligations.StartFragmentWritesTheReconstructedHeader : Prop :=
  ∀ row ∈ fragmentRows, ∀ q f nri fuh don data (s : State), s.config.donSort = false →
    (s.config.strictF && f) = false → fuh.getLsbD 7 = true → don.length = row.1 →
    2 ≤ (fuh :: (don ++ data)).length → fits s (4 + data.length) →
    ∃ t, exec (row.2 q f nri (fuh :: (don ++ data))) s = .next t ∧
      committed ([0x00, 0x00, 0x01, headerByte f nri (headerType fuh)] ++ data) (flagOfType (headerType fuh))
        s.work.cur s t

/-- R220 with S = 0 (R224 to R226). That CUR stays as it was is the model's choice (log 17). -/
def Obligations.ContinuationFragmentAppendsItsDataOnly : Prop :=
  ∀ row ∈ fragmentRows, ∀ q f nri fuh don data (s : State), s.config.donSort = false →
    (s.config.strictF && f) = false → fuh.getLsbD 7 = false → don.length = row.1 →
    2 ≤ (fuh :: (don ++ data)).length → fits s data.length →
    ∃ t, exec (row.2 q f nri (fuh :: (don ++ data))) s = .next t ∧ committed data 0 s.work.cur s t

/-- R222: Skip(TRUNC_DON) for len(p) = 3. -/
def Obligations.FuBWithoutItsDonIsSkipped : Prop :=
  ∀ q f nri a b (s : State), s.config.donSort = false → (s.config.strictF && f) = false →
    ∃ t, exec (.fuB q f nri [a, b]) s = .next t ∧ skippedAs 3 q s t

/-- R144 and R160: for the instruction, and for the packet that a step fetches. -/
def Obligations.ShortPacketsContributeNothing : Prop :=
  (∀ row ∈ packetRows, ∀ q f nri body (s : State), s.config.donSort = false → body.length < 2 →
      ∃ t, exec (row.2 q f nri body) s = .next t ∧ skippedAs 1 q s t) ∧
    (∀ (s : State) q p, s.config.donSort = false → s.busy = true → (∀ it ∈ s.host.head?, it.overlap = false) →
      s.work.pkts[s.work.pktIdx]? = some (q, p) → p.length ≤ 2 →
      ∃ t, step s = .next t ∧ skippedAs 1 q s t)

/-- R161: FBIT after the length check, before the dispatch. With P_STRICT_F = 0 no check is made: no row ever skips with that cause. -/
def Obligations.StrictModeSkipsASetFBit : Prop :=
  (∀ row ∈ packetRows, ∀ q nri body (s : State), s.config.donSort = false → s.config.strictF = true → 2 ≤ body.length →
      ∃ t, exec (row.2 q true nri body) s = .next t ∧ skippedAs 2 q s t) ∧
    (∀ row ∈ packetRows, ∀ q f nri body (s t : State), s.config.strictF = false →
      exec (row.2 q f nri body) s = .next t → ¬ skippedAs 2 q s t) ∧
    (∀ row ∈ packetRows, ∀ q nri body (s : State), s.config.donSort = false → s.config.strictF = true → body.length < 2 →
      ∃ t, exec (row.2 q true nri body) s = .next t ∧ skippedAs 1 q s t)

/-- R135 with the fault entry of R257. Nothing is said of the transient registers, which are free values (log 3). -/
def Obligations.CommitBeyondCapacityFaults : Prop :=
  ∀ row ∈ packetRows, ∀ q f nri body (s : State),
    (s.config.bufCap = none → ∀ t, exec (row.2 q f nri body) s = .next t → t.fault = s.fault) ∧
    (let unbounded := { s with config := { s.config with bufCap := none } }
     ∀ bs fl cur u, exec (row.2 q f nri body) unbounded = .next u → committed bs fl cur unbounded u →
       ¬ fits s bs.length →
       ∃ t, exec (row.2 q f nri body) s = .next t ∧ abortedBy 5 s t)

/-- R133 for every row, every payload, every state: no packet commits a part of its contribution (R143), whatever OBUF holds
before it. One packet is one step, as R15 allows (log 2). Of CUR after a commit nothing is said. -/
def Obligations.PacketsCommitWholeOrRollBackWhole : Prop :=
  ∀ row ∈ packetRows, ∀ q f nri body (s t : State), exec (row.2 q f nri body) s = .next t →
    let c := contribution { s.config with bufCap := none } (headerByte f nri row.1 :: body)
    (∃ code : BitVec 8, 1 ≤ code.toNat ∧ code.toNat ≤ 7 ∧ c = ([], 0) ∧ skippedAs code q s t) ∨
    (∃ cur, fits s c.1.length ∧ c.2 &&& 0xE0 = 0 ∧ committed c.1 c.2 cur s t) ∨
    (¬ fits s c.1.length ∧ abortedBy 5 s t)

/-- R101, before the MTU check. -/
def Obligations.EmptyNalIsANoOp : Prop :=
  ∀ (s : State) nal mtu ref F, s.ready → lookupFrame s.frames ref = some F → (nal = none ∨ nal = some []) →
    exec (.packetize nal mtu ref) s = .next { s with reply := .frame F }

/-- R102: this form traps. -/
def Obligations.ZeroMtuIsAFault : Prop :=
  ∀ (s : State) h body mtu ref F, s.ready → lookupFrame s.frames ref = some F → mtu.getD s.config.mtuDefault = 0 →
    ∃ r, exec (.packetize (some (h :: body)) mtu ref) s = .next { s with fault := 2, reply := r }

/-- R104 with R94 and R110. Nothing is said of the transient registers (log 3). -/
def Obligations.ShortNalIsOnePacketVerbatim : Prop :=
  ∀ (s : State) nal mtu ref F, s.ready → lookupFrame s.frames ref = some F → nal ≠ [] →
    nal.length < mtu.getD s.config.mtuDefault →
    ∃ w k, exec (.packetize (some nal) mtu ref) s = .next
      (let G := { F with pkts := insertPacket F.dupKeep (emitted F 1 true nal) F.pkts, highest := F.highest + 1 }
       { s with frames := insertFrame ref G s.frames, reply := .frame G, work := w, freeIdx := k })

/-- R105 to R110: the whole fragmentation path as one equation, for a Frame with no key above `highest`. The others (log 12)
are left to PacketizeStoresItsPacketsInAnyFrame. -/
def Obligations.LongNalBecomesItsFuAFragments : Prop :=
  ∀ (s : State) h body mtu ref F m, s.ready → lookupFrame s.frames ref = some F → keysBelowHighest F →
    mtu.getD s.config.mtuDefault = m → 0 < m → m ≤ (h :: body).length →
    ∃ w k, exec (.packetize (some (h :: body)) mtu ref) s = .next
      (let G := { F with pkts := F.pkts ++ fragmentPackets F (h :: body) h m,
                         highest := F.highest + ceilDiv (h :: body).length m }
       { s with frames := insertFrame ref G s.frames, reply := .frame G, work := w, freeIdx := k })

/-- R113 and R114, of the packets in the Frame after the instruction. The single path bound of R114 is the second
clause. Frames with a key above `highest` are left out: there R36 may drop a packet under a used number (log 12). -/
def Obligations.FragmentsRebuildTheNal : Prop :=
  (∀ (s t : State) h body mtu ref F m, s.ready → lookupFrame s.frames ref = some F → keysBelowHighest F →
      mtu.getD s.config.mtuDefault = m → 0 < m → m ≤ (h :: body).length →
      exec (.packetize (some (h :: body)) mtu ref) s = .next t →
      ∃ G first rest, lookupFrame t.frames ref = some G ∧ G.pkts = F.pkts ++ first :: rest ∧
        (∀ P ∈ first :: rest, 2 ≤ P.payload.length ∧ P.payload.length ≤ m + 2) ∧ first.payload.length ≤ m + 1 ∧
        (∃ ind fuh data, first.payload = ind :: fuh :: data ∧ (ind &&& 0xE0) ||| (fuh &&& 0x1F) = h) ∧
        h :: (first :: rest).flatMap (fun P => P.payload.drop 2) = h :: body) ∧
    (∀ (s t : State) nal mtu ref F, s.ready → lookupFrame s.frames ref = some F → keysBelowHighest F → nal ≠ [] →
      nal.length < mtu.getD s.config.mtuDefault → exec (.packetize (some nal) mtu ref) s = .next t →
      ∃ G P, lookupFrame t.frames ref = some G ∧ G.pkts = F.pkts ++ [P] ∧
        P.payload.length ≤ mtu.getD s.config.mtuDefault - 1)

/-- The frame of PACKETIZE (R116), with the fault of an overlapping command (R258) beside that of R102. That an
overlapping command leaves BUSY 1 is the model's reading of R257 beside R258 and R287 (log 7). -/
def Obligations.PacketizeTouchesOnlyItsFrame : Prop :=
  ∀ (s t : State) nal mtu ref, exec (.packetize nal mtu ref) s = .next t →
    t.config = s.config ∧ t.busy = s.busy ∧ t.flags = s.flags ∧ t.obuf = s.obuf ∧ t.obufState = s.obufState ∧
    t.rdpos = s.rdpos ∧ t.skipCount = s.skipCount ∧ t.lastSkipCause = s.lastSkipCause ∧
    t.lastSkipSeq = s.lastSkipSeq ∧ t.host = s.host ∧
    (∀ r, r ≠ ref → lookupFrame t.frames r = lookupFrame s.frames r) ∧
    (t.fault = s.fault ∨ (s.fault = 0 ∧ s.busy = false ∧ t.fault = 2) ∨ (s.fault = 0 ∧ s.busy = true ∧ t.fault = 4))

/-- R37: the block writes Packet records only through PACKETIZE; DEPACKETIZE's Frame is read-only (R130). -/
def Obligations.OnlyPacketizeWritesAFrame : Prop :=
  ∀ (i : Instr) (s t : State), (∀ nal mtu ref, i ≠ .packetize nal mtu ref) → exec i s = .next t →
    t.frames = s.frames ∧ ∀ ref seq a, readByte t (.frame ref seq) a = readByte s (.frame ref seq) a

/-- Read after write, for the Frames. -/
def Obligations.StoredFramesReadBack : Prop :=
  ∀ (m : List (Nat × Frame)) ref F r, lookupFrame (insertFrame ref F m) r = if r = ref then some F else lookupFrame m r

/-- R36. `find?` by sequence number is the reading of the map. -/
def Obligations.DuplicateNumbersFollowDupKeep : Prop :=
  ∀ (F : Frame) (P : Packet), F.wf →
    (addPacket F P).wf ∧ (addPacket F P).highest = max F.highest P.seq ∧
    (∀ k, k ≠ P.seq → (addPacket F P).pkts.find? (fun Q => Q.seq == k) = F.pkts.find? (fun Q => Q.seq == k)) ∧
    (addPacket F P).pkts.find? (fun Q => Q.seq == P.seq) =
      (match F.pkts.find? (fun Q => Q.seq == P.seq), F.dupKeep with
       | some Q, .first => some Q
       | _, _ => some P)

/-- Call start (R131, R132), with BUSY held as R287 asks of a model that runs the call in packet steps
(log 2). That CUR stays as it was is the model's choice (log 17). -/
def Obligations.DepacketizeStartsAFreshCall : Prop :=
  ∀ (s : State) ref F, s.ready → lookupFrame s.frames ref = some F →
    exec (.depacketize ref) s = .next
      { s with
        obuf := [], rdpos := 0, obufState := 1, flags := 0, skipCount := 0, lastSkipCause := 0, lastSkipSeq := 0,
        busy := true, reply := .none,
        work := { s.work with pkts := F.pkts.map (fun P => (P.seq, P.payload)), pktIdx := 0, frame := ref } }

/-- R136. -/
def Obligations.CallEndReturnsTheFlags : Prop :=
  ∀ s : State, s.config.donSort = false → s.busy = true → (∀ it ∈ s.host.head?, it.overlap = false) →
    s.work.pkts.length ≤ s.work.pktIdx →
    ∃ w k, step s = .next { s with rdpos := 0, busy := false, reply := .flags s.flags, work := w, freeIdx := k }

/-- R287: the refinement's results equal those of the atomic model, here in every field, with BUSY held from call start to call end (log 2). -/
def Obligations.PacketStepsRefineTheAtomicCall : Prop :=
  ∀ (s : State) c rest, s.busy = false → issues s c rest → c.code = 0x02 →
    ∃ k, 1 ≤ k ∧ (∀ F, lookupFrame s.frames c.frame = some F → k ≤ F.pkts.length + 2) ∧
      runs k s = depacketizeAtomic c.frame { s with host := rest } ∧
      ∀ j u, 1 ≤ j → j < k → runs j s = .next u → u.busy = true

/-- R137, determinism and idempotence, of the atomic call that PacketStepsRefineTheAtomicCall ties to the steps. -/
def Obligations.DepacketizeResultDependsOnItsFrameOnly : Prop :=
  ∀ (s u t v : State) r r' F G, s.ready → u.ready → s.config = u.config → lookupFrame s.frames r = some F →
    lookupFrame u.frames r' = some G →
    F.pkts.map (fun P => (P.seq, P.payload)) = G.pkts.map (fun P => (P.seq, P.payload)) → depacketizeAtomic r s = .next t → depacketizeAtomic r' u = .next v →
    sameResult t v ∧ t.frames = s.frames

/-- R138. -/
def Obligations.EmptyFrameGivesAnEmptyBuffer : Prop :=
  ∀ (s : State) ref F, s.ready → lookupFrame s.frames ref = some F → F.pkts = [] →
    ∃ t, depacketizeAtomic ref s = .next t ∧ t.obuf = [] ∧ t.flags = 0 ∧ t.skipCount = 0 ∧ t.obufState = 1

/-- The buffer layout of R143 and the order of R63: packets do not influence each other's contributions. -/
def Obligations.BufferIsTheContributionsInOrder : Prop :=
  ∀ (s : State) ref F, s.ready → s.config.bufCap = none → lookupFrame s.frames ref = some F →
    ∃ t, depacketizeAtomic ref s = .next t ∧ t.fault = 0 ∧ t.busy = false ∧ t.obufState = 1 ∧ t.rdpos = 0 ∧
      t.obuf = F.pkts.flatMap (fun P => (contribution s.config P.payload).1) ∧
      t.flags = F.pkts.foldl (fun b P => b ||| (contribution s.config P.payload).2) 0 ∧ t.reply = .flags t.flags

/-- R230, as a run of the machine's steps, with the case of `mtu = 1`. -/
def Obligations.FragmentedNalRoundTrips : Prop :=
  ∀ (s : State) h body mtu ref F m, s.ready →
    s.host = [⟨false, .command { code := 0x01, nal := some (h :: body), mtu := mtu, frame := ref }⟩,
              ⟨false, .command { code := 0x02, frame := ref }⟩] →
    lookupFrame s.frames ref = some F → F.pkts = [] → mtu.getD s.config.mtuDefault = m → 1 ≤ m →
    m ≤ (h :: body).length → (s.config.strictF && headerF h) = false →
    (∀ k, s.config.bufCap = some k → 3 + (h :: body).length ≤ k) →
    ∃ k t, runs k s = .next t ∧ t.busy = false ∧ t.fault = 0 ∧ t.host = [] ∧ t.reply = .flags t.flags ∧
      if m = 1 then t.obuf = body ∧ t.flags = 0 ∧ t.skipCount = 1 ∧ t.lastSkipCause = 1
      else t.obuf = [0x00, 0x00, 0x01] ++ h :: body ∧ t.flags = flagOfType (headerType h) ∧ t.skipCount = 0

/-- R53 and R25: nothing already written changes before the call ends. R38: the snapshot is taken once. -/
def Obligations.BufferOnlyGrowsDuringACall : Prop :=
  ∀ s t : State, s.busy = true → step s = .next t →
    s.obuf <+: t.obuf ∧ s.flags &&& t.flags = s.flags ∧
    (∀ a, a < s.obuf.length → readByte t .obuf a = readByte s .obuf a) ∧
    (t.busy = true → t.work.pkts = s.work.pkts ∧ s.work.pktIdx ≤ t.work.pktIdx)

/-- R285: the command raises Fault(OVERLAP), and no changed byte reaches OBUF. That every storing under the reference counts as a change is the model's reading (log 11). -/
def Obligations.FrameMutationDuringACallFaults : Prop :=
  ∀ (s : State) rest act ref G, s.config.donSort = false → s.busy = true → s.host = ⟨true, act⟩ :: rest →
    ((∃ highest ssrc ptb keep packets, act = .supplyFrame ref highest ssrc ptb keep packets ∧
        G = suppliedFrame highest ssrc ptb keep packets) ∨
      (∃ P F, act = .addPacket ref P ∧ lookupFrame s.frames ref = some F ∧ G = addPacket F P)) →
    (s.work.frame = ref → ∃ t, step s = .next t ∧
      abortedBy 4 { s with host := rest, frames := insertFrame ref G s.frames } t) ∧
    (s.work.frame ≠ ref → step s = .next { s with host := rest, frames := insertFrame ref G s.frames })

/-- R139, accepted while FAULT is not 0 (R257). -/
def Obligations.ReleaseEmptiesTheBuffer : Prop :=
  ∀ s : State, s.config.donSort = false → s.busy = false →
    exec .releaseBuffer s = .next { s with obuf := [], rdpos := 0, obufState := 2, reply := .none }

/-- R140. With RDPOS at OBUF_LEN nothing is returned and nothing faults. -/
def Obligations.BufReadReturnsTheNextBytes : Prop :=
  (∀ (s : State) n, s.ready → s.obufState = 1 →
      ∃ out : Bytes, exec (.bufRead n) s = .next { s with rdpos := s.rdpos + out.length, reply := .bytes out } ∧
        out.length = min n (s.obuf.length - s.rdpos) ∧
        ∀ i, i < out.length → out[i]? = readByte s .obuf (s.rdpos + i)) ∧
    (∀ (s : State) n, s.ready → s.obufState ≠ 1 →
      ∃ r, exec (.bufRead n) s = .next { s with fault := 1, reply := r })

/-- R141, with BUF_NOT_LIVE before BAD_SEEK (R258). -/
def Obligations.BufSeekSetsThePosition : Prop :=
  ∀ (s : State) pos, s.ready →
    (s.obufState ≠ 1 → ∃ r, exec (.bufSeek pos) s = .next { s with fault := 1, reply := r }) ∧
    (s.obufState = 1 → s.obuf.length < pos → ∃ r, exec (.bufSeek pos) s = .next { s with fault := 6, reply := r }) ∧
    (s.obufState = 1 → pos ≤ s.obuf.length →
      let t := { s with rdpos := pos, reply := .none }
      exec (.bufSeek pos) s = .next t ∧
        (pos = s.obuf.length → ∀ n, exec (.bufRead n) t = .next { t with reply := .bytes [] }))

/-- R142 with the register map of R32, its bit positions as powers of two. -/
def Obligations.ReadRegReadsTheRegisterMap : Prop :=
  ∀ (s : State) r, s.config.donSort = false → s.busy = false →
    exec (.readReg r) s = .next { s with reply := .value (mapped s r) }

/-- R257 and R258: refusal comes before every check of the command itself. READ_REG and RELEASE_BUFFER are accepted: ReadRegReadsTheRegisterMap, ReleaseEmptiesTheBuffer. -/
def Obligations.FaultedMachineRefusesOtherCommands : Prop :=
  ∀ s : State, s.config.donSort = false → s.busy = false → s.fault ≠ 0 →
    (∀ nal mtu ref, exec (.packetize nal mtu ref) s = .next { s with reply := .refused }) ∧
    (∀ ref, exec (.depacketize ref) s = .next { s with reply := .refused }) ∧
    (∀ n, exec (.bufRead n) s = .next { s with reply := .refused }) ∧
    (∀ pos, exec (.bufSeek pos) s = .next { s with reply := .refused }) ∧
    (∀ o c rest, s.host = ⟨o, .command c⟩ :: rest → (c.code.toNat = 0 ∨ 7 ≤ c.code.toNat) →
      step s = .next { s with host := rest, reply := .refused })

/-- R93. -/
def Obligations.IllegalCodeFaults : Prop :=
  ∀ (s : State) o c rest, s.ready → s.host = ⟨o, .command c⟩ :: rest → (c.code.toNat = 0 ∨ 7 ≤ c.code.toNat) →
    ∃ r, step s = .next { s with host := rest, fault := 3, reply := r }

/-- R284, R258 and R287. That BUSY stays 1 is the model's reading of R257 beside R258 and R287 (log 7). -/
def Obligations.OverlappingCommandFaults : Prop :=
  ∀ s : State, s.config.donSort = false → s.busy = true →
    let t := { s with fault := if s.fault = 0 then 4 else s.fault, reply := .aborted }
    (∀ nal mtu ref, exec (.packetize nal mtu ref) s = .next t) ∧ (∀ ref, exec (.depacketize ref) s = .next t) ∧
    exec .releaseBuffer s = .next t ∧ (∀ n, exec (.bufRead n) s = .next t) ∧
    (∀ pos, exec (.bufSeek pos) s = .next t) ∧ (∀ r, exec (.readReg r) s = .next t) ∧
    (∀ c rest, s.host = ⟨true, .command c⟩ :: rest → (c.code.toNat = 0 ∨ 7 ≤ c.code.toNat) →
      step s = .next { t with host := rest })

/-- R31: only a raised fault writes it, only while it is 0; nothing but reset clears it. -/
def Obligations.FaultIsStickyUntilReset : Prop :=
  ∀ s t : State, step s = .next t → t.fault ≠ s.fault →
    (s.fault = 0 ∧ 1 ≤ t.fault.toNat ∧ t.fault.toNat ≤ 6) ∨
    (t.fault = 0 ∧ s.busy = false ∧ ∃ o rest, s.host = ⟨o, .reset⟩ :: rest)

/-- The model's choice (log 6), not a rule of the spec. -/
def Obligations.UnsuppliedFrameStopsTheModel : Prop :=
  ∀ (s : State) ref, s.ready → lookupFrame s.frames ref = none →
    (∀ nal mtu, exec (.packetize nal mtu ref) s = .fault (.noFrame ref)) ∧
    exec (.depacketize ref) s = .fault (.noFrame ref)

/-- The frame of the host access commands, in every state: faulted, busy, or ready. That an overlapping
command leaves BUSY 1 is the model's reading of R257 beside R258 and R287 (log 7). -/
def Obligations.HostAccessCommandsKeepFlagsAndLog : Prop :=
  ∀ (i : Instr) (s t : State),
    (i = .releaseBuffer ∨ (∃ n, i = .bufRead n) ∨ (∃ pos, i = .bufSeek pos) ∨ ∃ r, i = .readReg r) →
    exec i s = .next t →
    t.config = s.config ∧ t.busy = s.busy ∧ t.flags = s.flags ∧ t.skipCount = s.skipCount ∧
    t.lastSkipCause = s.lastSkipCause ∧ t.lastSkipSeq = s.lastSkipSeq ∧ t.work = s.work ∧ t.frames = s.frames ∧
    t.host = s.host ∧ t.freeIdx = s.freeIdx ∧
    (i ≠ .releaseBuffer → t.obufState = s.obufState ∧ ∀ a, readByte t .obuf a = readByte s .obuf a) ∧
    (∀ r, i = .readReg r → t.rdpos = s.rdpos)

/-- R103 to R110 with R36, without a premise on the keys: a Frame may hold a key above `highest` (log 12). Nothing is said of
the transient registers (log 3). -/
def Obligations.PacketizeStoresItsPacketsInAnyFrame : Prop :=
  ∀ (s : State) h body mtu ref F m, s.ready → lookupFrame s.frames ref = some F →
    mtu.getD s.config.mtuDefault = m → 0 < m →
    ∃ w k, exec (.packetize (some (h :: body)) mtu ref) s = .next
      (let packets := if (h :: body).length < m then [emitted F 1 true (h :: body)]
                      else fragmentPackets F (h :: body) h m
       let G := packets.foldl addPacket F
       { s with frames := insertFrame ref G s.frames, reply := .frame G, work := w, freeIdx := k })
end

