-- ==== Sys2Proof/Laws/Decode.lean ====
section
/-! SUPPORT. The fields of a NAL header byte, and the dispatch map at each type. -/

namespace Sys2Proof

@[simp] theorem headerF_headerByte (f : Bool) (nri : BitVec 2) (t : BitVec 5) : headerF (headerByte f nri t) = f := by
  revert f nri t; decide

@[simp] theorem headerNri_headerByte (f : Bool) (nri : BitVec 2) (t : BitVec 5) :
    headerNri (headerByte f nri t) = nri := by
  revert f nri t; decide

@[simp] theorem headerType_headerByte (f : Bool) (nri : BitVec 2) (t : BitVec 5) :
    headerType (headerByte f nri t) = t := by
  revert f nri t; decide

/-- A header byte is its three fields (R71). -/
theorem headerByte_fields (h : Byte) : headerByte (headerF h) (headerNri h) (headerType h) = h := by
  revert h; decide

/-- A packet of at least 3 bytes decodes by the dispatch map (R160, R162). -/
theorem decodePacket_cons (q : Nat) (h : Byte) (body : Bytes) (hb : bodyLongEnough body = true) :
    decodePacket q (h :: body) = .ok (packetInstr (headerType h) q (headerF h) (headerNri h) body) := by
  simp [decodePacket, hb]

/-- Decoding what `encodePacket` lays out gives the row of its type. -/
theorem decode_encodePacket (t : BitVec 5) (q : Nat) (f : Bool) (nri : BitVec 2) (body : Bytes)
    (hb : bodyLongEnough body = true) :
    decode (encodePacket t q f nri body) = .ok (packetInstr t q f nri body) := by
  simp [decode, encodePacket, decodePacket_cons, hb]

end Sys2Proof
end

