-- ==== Sys2Proof/Laws/State.lean ====
section
/-! SUPPORT. One lemma per field per update of the state, true by unfolding. The transient registers after `forgetCall` and
`forgetPacketizer` are free values: no lemma says what they are. -/

namespace Sys2Proof.Machine

variable (s : State)

/-! ### setFrame -/

@[simp] theorem setFrame_config (ref : Nat) (F : Frame) : (setFrame ref F s).config = s.config := rfl
@[simp] theorem setFrame_busy (ref : Nat) (F : Frame) : (setFrame ref F s).busy = s.busy := rfl
@[simp] theorem setFrame_fault (ref : Nat) (F : Frame) : (setFrame ref F s).fault = s.fault := rfl
@[simp] theorem setFrame_flags (ref : Nat) (F : Frame) : (setFrame ref F s).flags = s.flags := rfl
@[simp] theorem setFrame_obuf (ref : Nat) (F : Frame) : (setFrame ref F s).obuf = s.obuf := rfl
@[simp] theorem setFrame_obufState (ref : Nat) (F : Frame) : (setFrame ref F s).obufState = s.obufState := rfl
@[simp] theorem setFrame_rdpos (ref : Nat) (F : Frame) : (setFrame ref F s).rdpos = s.rdpos := rfl
@[simp] theorem setFrame_skipCount (ref : Nat) (F : Frame) : (setFrame ref F s).skipCount = s.skipCount := rfl
@[simp] theorem setFrame_lastSkipCause (ref : Nat) (F : Frame) : (setFrame ref F s).lastSkipCause = s.lastSkipCause := rfl
@[simp] theorem setFrame_lastSkipSeq (ref : Nat) (F : Frame) : (setFrame ref F s).lastSkipSeq = s.lastSkipSeq := rfl
@[simp] theorem setFrame_work (ref : Nat) (F : Frame) : (setFrame ref F s).work = s.work := rfl
@[simp] theorem setFrame_frames (ref : Nat) (F : Frame) : (setFrame ref F s).frames = insertFrame ref F s.frames := rfl
@[simp] theorem setFrame_host (ref : Nat) (F : Frame) : (setFrame ref F s).host = s.host := rfl
@[simp] theorem setFrame_reply (ref : Nat) (F : Frame) : (setFrame ref F s).reply = s.reply := rfl
@[simp] theorem setFrame_freeIdx (ref : Nat) (F : Frame) : (setFrame ref F s).freeIdx = s.freeIdx := rfl

/-! ### clearStage -/

@[simp] theorem clearStage_config : (clearStage s).config = s.config := rfl
@[simp] theorem clearStage_busy : (clearStage s).busy = s.busy := rfl
@[simp] theorem clearStage_fault : (clearStage s).fault = s.fault := rfl
@[simp] theorem clearStage_flags : (clearStage s).flags = s.flags := rfl
@[simp] theorem clearStage_obuf : (clearStage s).obuf = s.obuf := rfl
@[simp] theorem clearStage_obufState : (clearStage s).obufState = s.obufState := rfl
@[simp] theorem clearStage_rdpos : (clearStage s).rdpos = s.rdpos := rfl
@[simp] theorem clearStage_skipCount : (clearStage s).skipCount = s.skipCount := rfl
@[simp] theorem clearStage_lastSkipCause : (clearStage s).lastSkipCause = s.lastSkipCause := rfl
@[simp] theorem clearStage_lastSkipSeq : (clearStage s).lastSkipSeq = s.lastSkipSeq := rfl
@[simp] theorem clearStage_work : (clearStage s).work = { s.work with stage := [], sflags := 0 } := rfl
@[simp] theorem clearStage_frames : (clearStage s).frames = s.frames := rfl
@[simp] theorem clearStage_host : (clearStage s).host = s.host := rfl
@[simp] theorem clearStage_reply : (clearStage s).reply = s.reply := rfl
@[simp] theorem clearStage_freeIdx : (clearStage s).freeIdx = s.freeIdx := rfl

/-! ### stageAppend -/

@[simp] theorem stageAppend_config (bs : Bytes) : (stageAppend bs s).config = s.config := rfl
@[simp] theorem stageAppend_busy (bs : Bytes) : (stageAppend bs s).busy = s.busy := rfl
@[simp] theorem stageAppend_fault (bs : Bytes) : (stageAppend bs s).fault = s.fault := rfl
@[simp] theorem stageAppend_flags (bs : Bytes) : (stageAppend bs s).flags = s.flags := rfl
@[simp] theorem stageAppend_obuf (bs : Bytes) : (stageAppend bs s).obuf = s.obuf := rfl
@[simp] theorem stageAppend_obufState (bs : Bytes) : (stageAppend bs s).obufState = s.obufState := rfl
@[simp] theorem stageAppend_rdpos (bs : Bytes) : (stageAppend bs s).rdpos = s.rdpos := rfl
@[simp] theorem stageAppend_skipCount (bs : Bytes) : (stageAppend bs s).skipCount = s.skipCount := rfl
@[simp] theorem stageAppend_lastSkipCause (bs : Bytes) : (stageAppend bs s).lastSkipCause = s.lastSkipCause := rfl
@[simp] theorem stageAppend_lastSkipSeq (bs : Bytes) : (stageAppend bs s).lastSkipSeq = s.lastSkipSeq := rfl
@[simp] theorem stageAppend_work (bs : Bytes) : (stageAppend bs s).work = { s.work with stage := s.work.stage ++ bs } := rfl
@[simp] theorem stageAppend_frames (bs : Bytes) : (stageAppend bs s).frames = s.frames := rfl
@[simp] theorem stageAppend_host (bs : Bytes) : (stageAppend bs s).host = s.host := rfl
@[simp] theorem stageAppend_reply (bs : Bytes) : (stageAppend bs s).reply = s.reply := rfl
@[simp] theorem stageAppend_freeIdx (bs : Bytes) : (stageAppend bs s).freeIdx = s.freeIdx := rfl

/-! ### stageFlag -/

@[simp] theorem stageFlag_config (b : Nat) : (stageFlag b s).config = s.config := rfl
@[simp] theorem stageFlag_busy (b : Nat) : (stageFlag b s).busy = s.busy := rfl
@[simp] theorem stageFlag_fault (b : Nat) : (stageFlag b s).fault = s.fault := rfl
@[simp] theorem stageFlag_flags (b : Nat) : (stageFlag b s).flags = s.flags := rfl
@[simp] theorem stageFlag_obuf (b : Nat) : (stageFlag b s).obuf = s.obuf := rfl
@[simp] theorem stageFlag_obufState (b : Nat) : (stageFlag b s).obufState = s.obufState := rfl
@[simp] theorem stageFlag_rdpos (b : Nat) : (stageFlag b s).rdpos = s.rdpos := rfl
@[simp] theorem stageFlag_skipCount (b : Nat) : (stageFlag b s).skipCount = s.skipCount := rfl
@[simp] theorem stageFlag_lastSkipCause (b : Nat) : (stageFlag b s).lastSkipCause = s.lastSkipCause := rfl
@[simp] theorem stageFlag_lastSkipSeq (b : Nat) : (stageFlag b s).lastSkipSeq = s.lastSkipSeq := rfl
@[simp] theorem stageFlag_work (b : Nat) : (stageFlag b s).work = { s.work with sflags := s.work.sflags ||| (1#8 <<< b) } := rfl
@[simp] theorem stageFlag_frames (b : Nat) : (stageFlag b s).frames = s.frames := rfl
@[simp] theorem stageFlag_host (b : Nat) : (stageFlag b s).host = s.host := rfl
@[simp] theorem stageFlag_reply (b : Nat) : (stageFlag b s).reply = s.reply := rfl
@[simp] theorem stageFlag_freeIdx (b : Nat) : (stageFlag b s).freeIdx = s.freeIdx := rfl

/-! ### setCur -/

@[simp] theorem setCur_config (c : Nat) : (setCur c s).config = s.config := rfl
@[simp] theorem setCur_busy (c : Nat) : (setCur c s).busy = s.busy := rfl
@[simp] theorem setCur_fault (c : Nat) : (setCur c s).fault = s.fault := rfl
@[simp] theorem setCur_flags (c : Nat) : (setCur c s).flags = s.flags := rfl
@[simp] theorem setCur_obuf (c : Nat) : (setCur c s).obuf = s.obuf := rfl
@[simp] theorem setCur_obufState (c : Nat) : (setCur c s).obufState = s.obufState := rfl
@[simp] theorem setCur_rdpos (c : Nat) : (setCur c s).rdpos = s.rdpos := rfl
@[simp] theorem setCur_skipCount (c : Nat) : (setCur c s).skipCount = s.skipCount := rfl
@[simp] theorem setCur_lastSkipCause (c : Nat) : (setCur c s).lastSkipCause = s.lastSkipCause := rfl
@[simp] theorem setCur_lastSkipSeq (c : Nat) : (setCur c s).lastSkipSeq = s.lastSkipSeq := rfl
@[simp] theorem setCur_work (c : Nat) : (setCur c s).work = { s.work with cur := c } := rfl
@[simp] theorem setCur_frames (c : Nat) : (setCur c s).frames = s.frames := rfl
@[simp] theorem setCur_host (c : Nat) : (setCur c s).host = s.host := rfl
@[simp] theorem setCur_reply (c : Nat) : (setCur c s).reply = s.reply := rfl
@[simp] theorem setCur_freeIdx (c : Nat) : (setCur c s).freeIdx = s.freeIdx := rfl

/-! ### logSkip -/

@[simp] theorem logSkip_config (c : SkipCause) (q : Nat) : (logSkip c q s).config = s.config := rfl
@[simp] theorem logSkip_busy (c : SkipCause) (q : Nat) : (logSkip c q s).busy = s.busy := rfl
@[simp] theorem logSkip_fault (c : SkipCause) (q : Nat) : (logSkip c q s).fault = s.fault := rfl
@[simp] theorem logSkip_flags (c : SkipCause) (q : Nat) : (logSkip c q s).flags = s.flags := rfl
@[simp] theorem logSkip_obuf (c : SkipCause) (q : Nat) : (logSkip c q s).obuf = s.obuf := rfl
@[simp] theorem logSkip_obufState (c : SkipCause) (q : Nat) : (logSkip c q s).obufState = s.obufState := rfl
@[simp] theorem logSkip_rdpos (c : SkipCause) (q : Nat) : (logSkip c q s).rdpos = s.rdpos := rfl
@[simp] theorem logSkip_skipCount (c : SkipCause) (q : Nat) : (logSkip c q s).skipCount = s.skipCount + 1 := rfl
@[simp] theorem logSkip_lastSkipCause (c : SkipCause) (q : Nat) : (logSkip c q s).lastSkipCause = c.code := rfl
@[simp] theorem logSkip_lastSkipSeq (c : SkipCause) (q : Nat) : (logSkip c q s).lastSkipSeq = q := rfl
@[simp] theorem logSkip_work (c : SkipCause) (q : Nat) : (logSkip c q s).work = s.work := rfl
@[simp] theorem logSkip_frames (c : SkipCause) (q : Nat) : (logSkip c q s).frames = s.frames := rfl
@[simp] theorem logSkip_host (c : SkipCause) (q : Nat) : (logSkip c q s).host = s.host := rfl
@[simp] theorem logSkip_reply (c : SkipCause) (q : Nat) : (logSkip c q s).reply = s.reply := rfl
@[simp] theorem logSkip_freeIdx (c : SkipCause) (q : Nat) : (logSkip c q s).freeIdx = s.freeIdx := rfl

/-! ### takeSkip -/

@[simp] theorem takeSkip_config (c : SkipCause) (q : Nat) : (takeSkip c q s).config = s.config := rfl
@[simp] theorem takeSkip_busy (c : SkipCause) (q : Nat) : (takeSkip c q s).busy = s.busy := rfl
@[simp] theorem takeSkip_fault (c : SkipCause) (q : Nat) : (takeSkip c q s).fault = s.fault := rfl
@[simp] theorem takeSkip_flags (c : SkipCause) (q : Nat) : (takeSkip c q s).flags = s.flags := rfl
@[simp] theorem takeSkip_obuf (c : SkipCause) (q : Nat) : (takeSkip c q s).obuf = s.obuf := rfl
@[simp] theorem takeSkip_obufState (c : SkipCause) (q : Nat) : (takeSkip c q s).obufState = s.obufState := rfl
@[simp] theorem takeSkip_rdpos (c : SkipCause) (q : Nat) : (takeSkip c q s).rdpos = s.rdpos := rfl
@[simp] theorem takeSkip_skipCount (c : SkipCause) (q : Nat) : (takeSkip c q s).skipCount = s.skipCount + 1 := rfl
@[simp] theorem takeSkip_lastSkipCause (c : SkipCause) (q : Nat) : (takeSkip c q s).lastSkipCause = c.code := rfl
@[simp] theorem takeSkip_lastSkipSeq (c : SkipCause) (q : Nat) : (takeSkip c q s).lastSkipSeq = q := rfl
@[simp] theorem takeSkip_work (c : SkipCause) (q : Nat) : (takeSkip c q s).work = { s.work with stage := [], sflags := 0 } := rfl
@[simp] theorem takeSkip_frames (c : SkipCause) (q : Nat) : (takeSkip c q s).frames = s.frames := rfl
@[simp] theorem takeSkip_host (c : SkipCause) (q : Nat) : (takeSkip c q s).host = s.host := rfl
@[simp] theorem takeSkip_reply (c : SkipCause) (q : Nat) : (takeSkip c q s).reply = s.reply := rfl
@[simp] theorem takeSkip_freeIdx (c : SkipCause) (q : Nat) : (takeSkip c q s).freeIdx = s.freeIdx := rfl

/-! ### recordFault -/

@[simp] theorem recordFault_config (c : FaultCode) : (recordFault c s).config = s.config := rfl
@[simp] theorem recordFault_busy (c : FaultCode) : (recordFault c s).busy = s.busy := rfl
@[simp] theorem recordFault_fault (c : FaultCode) : (recordFault c s).fault = if s.fault = 0 then c.code else s.fault := rfl
@[simp] theorem recordFault_flags (c : FaultCode) : (recordFault c s).flags = s.flags := rfl
@[simp] theorem recordFault_obuf (c : FaultCode) : (recordFault c s).obuf = s.obuf := rfl
@[simp] theorem recordFault_obufState (c : FaultCode) : (recordFault c s).obufState = s.obufState := rfl
@[simp] theorem recordFault_rdpos (c : FaultCode) : (recordFault c s).rdpos = s.rdpos := rfl
@[simp] theorem recordFault_skipCount (c : FaultCode) : (recordFault c s).skipCount = s.skipCount := rfl
@[simp] theorem recordFault_lastSkipCause (c : FaultCode) : (recordFault c s).lastSkipCause = s.lastSkipCause := rfl
@[simp] theorem recordFault_lastSkipSeq (c : FaultCode) : (recordFault c s).lastSkipSeq = s.lastSkipSeq := rfl
@[simp] theorem recordFault_work (c : FaultCode) : (recordFault c s).work = s.work := rfl
@[simp] theorem recordFault_frames (c : FaultCode) : (recordFault c s).frames = s.frames := rfl
@[simp] theorem recordFault_host (c : FaultCode) : (recordFault c s).host = s.host := rfl
@[simp] theorem recordFault_reply (c : FaultCode) : (recordFault c s).reply = .aborted := rfl
@[simp] theorem recordFault_freeIdx (c : FaultCode) : (recordFault c s).freeIdx = s.freeIdx := rfl

/-! ### takeFault -/

@[simp] theorem takeFault_config (c : FaultCode) : (takeFault c s).config = s.config := rfl
@[simp] theorem takeFault_busy (c : FaultCode) : (takeFault c s).busy = false := rfl
@[simp] theorem takeFault_fault (c : FaultCode) : (takeFault c s).fault = if s.fault = 0 then c.code else s.fault := rfl
@[simp] theorem takeFault_flags (c : FaultCode) : (takeFault c s).flags = s.flags := rfl
@[simp] theorem takeFault_obuf (c : FaultCode) : (takeFault c s).obuf = s.obuf := rfl
@[simp] theorem takeFault_obufState (c : FaultCode) : (takeFault c s).obufState = s.obufState := rfl
@[simp] theorem takeFault_rdpos (c : FaultCode) : (takeFault c s).rdpos = s.rdpos := rfl
@[simp] theorem takeFault_skipCount (c : FaultCode) : (takeFault c s).skipCount = s.skipCount := rfl
@[simp] theorem takeFault_lastSkipCause (c : FaultCode) : (takeFault c s).lastSkipCause = s.lastSkipCause := rfl
@[simp] theorem takeFault_lastSkipSeq (c : FaultCode) : (takeFault c s).lastSkipSeq = s.lastSkipSeq := rfl
@[simp] theorem takeFault_work (c : FaultCode) : (takeFault c s).work = s.work := rfl
@[simp] theorem takeFault_frames (c : FaultCode) : (takeFault c s).frames = s.frames := rfl
@[simp] theorem takeFault_host (c : FaultCode) : (takeFault c s).host = s.host := rfl
@[simp] theorem takeFault_reply (c : FaultCode) : (takeFault c s).reply = .aborted := rfl
@[simp] theorem takeFault_freeIdx (c : FaultCode) : (takeFault c s).freeIdx = s.freeIdx := rfl

/-! ### nextPacket -/

@[simp] theorem nextPacket_config : (nextPacket s).config = s.config := rfl
@[simp] theorem nextPacket_busy : (nextPacket s).busy = s.busy := rfl
@[simp] theorem nextPacket_fault : (nextPacket s).fault = s.fault := rfl
@[simp] theorem nextPacket_flags : (nextPacket s).flags = s.flags := rfl
@[simp] theorem nextPacket_obuf : (nextPacket s).obuf = s.obuf := rfl
@[simp] theorem nextPacket_obufState : (nextPacket s).obufState = s.obufState := rfl
@[simp] theorem nextPacket_rdpos : (nextPacket s).rdpos = s.rdpos := rfl
@[simp] theorem nextPacket_skipCount : (nextPacket s).skipCount = s.skipCount := rfl
@[simp] theorem nextPacket_lastSkipCause : (nextPacket s).lastSkipCause = s.lastSkipCause := rfl
@[simp] theorem nextPacket_lastSkipSeq : (nextPacket s).lastSkipSeq = s.lastSkipSeq := rfl
@[simp] theorem nextPacket_work : (nextPacket s).work = { s.work with pktIdx := s.work.pktIdx + 1 } := rfl
@[simp] theorem nextPacket_frames : (nextPacket s).frames = s.frames := rfl
@[simp] theorem nextPacket_host : (nextPacket s).host = s.host := rfl
@[simp] theorem nextPacket_reply : (nextPacket s).reply = s.reply := rfl
@[simp] theorem nextPacket_freeIdx : (nextPacket s).freeIdx = s.freeIdx := rfl

/-! ### returns -/

@[simp] theorem returns_config (r : Reply) : (returns r s).config = s.config := rfl
@[simp] theorem returns_busy (r : Reply) : (returns r s).busy = s.busy := rfl
@[simp] theorem returns_fault (r : Reply) : (returns r s).fault = s.fault := rfl
@[simp] theorem returns_flags (r : Reply) : (returns r s).flags = s.flags := rfl
@[simp] theorem returns_obuf (r : Reply) : (returns r s).obuf = s.obuf := rfl
@[simp] theorem returns_obufState (r : Reply) : (returns r s).obufState = s.obufState := rfl
@[simp] theorem returns_rdpos (r : Reply) : (returns r s).rdpos = s.rdpos := rfl
@[simp] theorem returns_skipCount (r : Reply) : (returns r s).skipCount = s.skipCount := rfl
@[simp] theorem returns_lastSkipCause (r : Reply) : (returns r s).lastSkipCause = s.lastSkipCause := rfl
@[simp] theorem returns_lastSkipSeq (r : Reply) : (returns r s).lastSkipSeq = s.lastSkipSeq := rfl
@[simp] theorem returns_work (r : Reply) : (returns r s).work = s.work := rfl
@[simp] theorem returns_frames (r : Reply) : (returns r s).frames = s.frames := rfl
@[simp] theorem returns_host (r : Reply) : (returns r s).host = s.host := rfl
@[simp] theorem returns_reply (r : Reply) : (returns r s).reply = r := rfl
@[simp] theorem returns_freeIdx (r : Reply) : (returns r s).freeIdx = s.freeIdx := rfl

/-! ### callStart -/

@[simp] theorem callStart_config : (callStart s).config = s.config := rfl
@[simp] theorem callStart_busy : (callStart s).busy = s.busy := rfl
@[simp] theorem callStart_fault : (callStart s).fault = s.fault := rfl
@[simp] theorem callStart_flags : (callStart s).flags = 0 := rfl
@[simp] theorem callStart_obuf : (callStart s).obuf = [] := rfl
@[simp] theorem callStart_obufState : (callStart s).obufState = bufLive := rfl
@[simp] theorem callStart_rdpos : (callStart s).rdpos = 0 := rfl
@[simp] theorem callStart_skipCount : (callStart s).skipCount = 0 := rfl
@[simp] theorem callStart_lastSkipCause : (callStart s).lastSkipCause = 0 := rfl
@[simp] theorem callStart_lastSkipSeq : (callStart s).lastSkipSeq = 0 := rfl
@[simp] theorem callStart_work : (callStart s).work = s.work := rfl
@[simp] theorem callStart_frames : (callStart s).frames = s.frames := rfl
@[simp] theorem callStart_host : (callStart s).host = s.host := rfl
@[simp] theorem callStart_reply : (callStart s).reply = s.reply := rfl
@[simp] theorem callStart_freeIdx : (callStart s).freeIdx = s.freeIdx := rfl

/-! ### beginCall -/

@[simp] theorem beginCall_config (r : Nat) (F : Frame) : (beginCall r F s).config = s.config := rfl
@[simp] theorem beginCall_busy (r : Nat) (F : Frame) : (beginCall r F s).busy = true := rfl
@[simp] theorem beginCall_fault (r : Nat) (F : Frame) : (beginCall r F s).fault = s.fault := rfl
@[simp] theorem beginCall_flags (r : Nat) (F : Frame) : (beginCall r F s).flags = 0 := rfl
@[simp] theorem beginCall_obuf (r : Nat) (F : Frame) : (beginCall r F s).obuf = [] := rfl
@[simp] theorem beginCall_obufState (r : Nat) (F : Frame) : (beginCall r F s).obufState = bufLive := rfl
@[simp] theorem beginCall_rdpos (r : Nat) (F : Frame) : (beginCall r F s).rdpos = 0 := rfl
@[simp] theorem beginCall_skipCount (r : Nat) (F : Frame) : (beginCall r F s).skipCount = 0 := rfl
@[simp] theorem beginCall_lastSkipCause (r : Nat) (F : Frame) : (beginCall r F s).lastSkipCause = 0 := rfl
@[simp] theorem beginCall_lastSkipSeq (r : Nat) (F : Frame) : (beginCall r F s).lastSkipSeq = 0 := rfl
@[simp] theorem beginCall_work (r : Nat) (F : Frame) : (beginCall r F s).work = { s.work with pkts := snapshot F, pktIdx := 0, frame := r } := rfl
@[simp] theorem beginCall_frames (r : Nat) (F : Frame) : (beginCall r F s).frames = s.frames := rfl
@[simp] theorem beginCall_host (r : Nat) (F : Frame) : (beginCall r F s).host = s.host := rfl
@[simp] theorem beginCall_reply (r : Nat) (F : Frame) : (beginCall r F s).reply = .none := rfl
@[simp] theorem beginCall_freeIdx (r : Nat) (F : Frame) : (beginCall r F s).freeIdx = s.freeIdx := rfl

/-! ### resetBlock -/

@[simp] theorem resetBlock_config : (resetBlock s).config = s.config := rfl
@[simp] theorem resetBlock_busy : (resetBlock s).busy = false := rfl
@[simp] theorem resetBlock_fault : (resetBlock s).fault = 0 := rfl
@[simp] theorem resetBlock_flags : (resetBlock s).flags = 0 := rfl
@[simp] theorem resetBlock_obuf : (resetBlock s).obuf = [] := rfl
@[simp] theorem resetBlock_obufState : (resetBlock s).obufState = 0 := rfl
@[simp] theorem resetBlock_rdpos : (resetBlock s).rdpos = 0 := rfl
@[simp] theorem resetBlock_skipCount : (resetBlock s).skipCount = 0 := rfl
@[simp] theorem resetBlock_lastSkipCause : (resetBlock s).lastSkipCause = 0 := rfl
@[simp] theorem resetBlock_lastSkipSeq : (resetBlock s).lastSkipSeq = 0 := rfl
@[simp] theorem resetBlock_work : (resetBlock s).work = Work.reset := rfl
@[simp] theorem resetBlock_frames : (resetBlock s).frames = s.frames := rfl
@[simp] theorem resetBlock_host : (resetBlock s).host = s.host := rfl
@[simp] theorem resetBlock_reply : (resetBlock s).reply = .none := rfl
@[simp] theorem resetBlock_freeIdx : (resetBlock s).freeIdx = s.freeIdx := rfl

/-! ### forgetCall -/

@[simp] theorem forgetCall_config : (forgetCall s).config = s.config := rfl
@[simp] theorem forgetCall_busy : (forgetCall s).busy = s.busy := rfl
@[simp] theorem forgetCall_fault : (forgetCall s).fault = s.fault := rfl
@[simp] theorem forgetCall_flags : (forgetCall s).flags = s.flags := rfl
@[simp] theorem forgetCall_obuf : (forgetCall s).obuf = s.obuf := rfl
@[simp] theorem forgetCall_obufState : (forgetCall s).obufState = s.obufState := rfl
@[simp] theorem forgetCall_rdpos : (forgetCall s).rdpos = s.rdpos := rfl
@[simp] theorem forgetCall_skipCount : (forgetCall s).skipCount = s.skipCount := rfl
@[simp] theorem forgetCall_lastSkipCause : (forgetCall s).lastSkipCause = s.lastSkipCause := rfl
@[simp] theorem forgetCall_lastSkipSeq : (forgetCall s).lastSkipSeq = s.lastSkipSeq := rfl
@[simp] theorem forgetCall_frames : (forgetCall s).frames = s.frames := rfl
@[simp] theorem forgetCall_host : (forgetCall s).host = s.host := rfl
@[simp] theorem forgetCall_reply : (forgetCall s).reply = s.reply := rfl
@[simp] theorem forgetCall_freeIdx : (forgetCall s).freeIdx = s.freeIdx + 3 := rfl

/-! ### forgetPacketizer -/

@[simp] theorem forgetPacketizer_config : (forgetPacketizer s).config = s.config := rfl
@[simp] theorem forgetPacketizer_busy : (forgetPacketizer s).busy = s.busy := rfl
@[simp] theorem forgetPacketizer_fault : (forgetPacketizer s).fault = s.fault := rfl
@[simp] theorem forgetPacketizer_flags : (forgetPacketizer s).flags = s.flags := rfl
@[simp] theorem forgetPacketizer_obuf : (forgetPacketizer s).obuf = s.obuf := rfl
@[simp] theorem forgetPacketizer_obufState : (forgetPacketizer s).obufState = s.obufState := rfl
@[simp] theorem forgetPacketizer_rdpos : (forgetPacketizer s).rdpos = s.rdpos := rfl
@[simp] theorem forgetPacketizer_skipCount : (forgetPacketizer s).skipCount = s.skipCount := rfl
@[simp] theorem forgetPacketizer_lastSkipCause : (forgetPacketizer s).lastSkipCause = s.lastSkipCause := rfl
@[simp] theorem forgetPacketizer_lastSkipSeq : (forgetPacketizer s).lastSkipSeq = s.lastSkipSeq := rfl
@[simp] theorem forgetPacketizer_frames : (forgetPacketizer s).frames = s.frames := rfl
@[simp] theorem forgetPacketizer_host : (forgetPacketizer s).host = s.host := rfl
@[simp] theorem forgetPacketizer_reply : (forgetPacketizer s).reply = s.reply := rfl
@[simp] theorem forgetPacketizer_freeIdx : (forgetPacketizer s).freeIdx = s.freeIdx + 2 := rfl

/-! ### abortCall -/

@[simp] theorem abortCall_config (c : FaultCode) : (abortCall c s).config = s.config := rfl
@[simp] theorem abortCall_busy (c : FaultCode) : (abortCall c s).busy = false := rfl
@[simp] theorem abortCall_fault (c : FaultCode) : (abortCall c s).fault = if s.fault = 0 then c.code else s.fault := rfl
@[simp] theorem abortCall_flags (c : FaultCode) : (abortCall c s).flags = s.flags := rfl
@[simp] theorem abortCall_obuf (c : FaultCode) : (abortCall c s).obuf = s.obuf := rfl
@[simp] theorem abortCall_obufState (c : FaultCode) : (abortCall c s).obufState = s.obufState := rfl
@[simp] theorem abortCall_rdpos (c : FaultCode) : (abortCall c s).rdpos = s.rdpos := rfl
@[simp] theorem abortCall_skipCount (c : FaultCode) : (abortCall c s).skipCount = s.skipCount := rfl
@[simp] theorem abortCall_lastSkipCause (c : FaultCode) : (abortCall c s).lastSkipCause = s.lastSkipCause := rfl
@[simp] theorem abortCall_lastSkipSeq (c : FaultCode) : (abortCall c s).lastSkipSeq = s.lastSkipSeq := rfl
@[simp] theorem abortCall_frames (c : FaultCode) : (abortCall c s).frames = s.frames := rfl
@[simp] theorem abortCall_host (c : FaultCode) : (abortCall c s).host = s.host := rfl
@[simp] theorem abortCall_reply (c : FaultCode) : (abortCall c s).reply = .aborted := rfl
@[simp] theorem abortCall_freeIdx (c : FaultCode) : (abortCall c s).freeIdx = s.freeIdx + 3 := rfl

/-! ### callEnd -/

@[simp] theorem callEnd_config : (callEnd s).config = s.config := rfl
@[simp] theorem callEnd_busy : (callEnd s).busy = false := rfl
@[simp] theorem callEnd_fault : (callEnd s).fault = s.fault := rfl
@[simp] theorem callEnd_flags : (callEnd s).flags = s.flags := rfl
@[simp] theorem callEnd_obuf : (callEnd s).obuf = s.obuf := rfl
@[simp] theorem callEnd_obufState : (callEnd s).obufState = s.obufState := rfl
@[simp] theorem callEnd_rdpos : (callEnd s).rdpos = 0 := rfl
@[simp] theorem callEnd_skipCount : (callEnd s).skipCount = s.skipCount := rfl
@[simp] theorem callEnd_lastSkipCause : (callEnd s).lastSkipCause = s.lastSkipCause := rfl
@[simp] theorem callEnd_lastSkipSeq : (callEnd s).lastSkipSeq = s.lastSkipSeq := rfl
@[simp] theorem callEnd_frames : (callEnd s).frames = s.frames := rfl
@[simp] theorem callEnd_host : (callEnd s).host = s.host := rfl
@[simp] theorem callEnd_reply : (callEnd s).reply = .flags s.flags := rfl
@[simp] theorem callEnd_freeIdx : (callEnd s).freeIdx = s.freeIdx + 3 := rfl

end Sys2Proof.Machine
end

