-- ==== Sys2Proof/Laws/Frames.lean ====
section
/-! SUPPORT. The Frames: reading after writing, and that every operation keeps the canonical form. -/

namespace Sys2Proof.Machine

/-! ## The Frame store -/

theorem lookupFrame_insertFrame (m : List (Nat × Frame)) (ref : Nat) (F : Frame) (r : Nat) :
    lookupFrame (insertFrame ref F m) r = if r = ref then some F else lookupFrame m r := by
  induction m with
  | nil => simp [insertFrame, lookupFrame, eq_comm]
  | cons e rest ih =>
    obtain ⟨k, G⟩ := e
    unfold insertFrame
    split
    · simp [lookupFrame, eq_comm]
    · split
      · rename_i h
        subst h
        simp only [lookupFrame]
        split <;> simp_all [eq_comm]
      · simp only [lookupFrame, ih]
        split
        · rename_i h1 h2
          subst h2
          simp [Ne.symm h1]
        · rfl

@[simp] theorem lookupFrame_insertFrame_self (m : List (Nat × Frame)) (ref : Nat) (F : Frame) :
    lookupFrame (insertFrame ref F m) ref = some F := by
  simp [lookupFrame_insertFrame]

theorem lookupFrame_mem {m : List (Nat × Frame)} {ref : Nat} {F : Frame} (h : lookupFrame m ref = some F) :
    (ref, F) ∈ m := by
  induction m with
  | nil => cases h
  | cons e rest ih =>
    obtain ⟨k, G⟩ := e
    simp only [lookupFrame] at h
    split at h
    · rename_i hk
      cases h
      simp [hk]
    · exact List.mem_cons_of_mem _ (ih h)

theorem mem_insertFrame {m : List (Nat × Frame)} {ref : Nat} {F : Frame} {e : Nat × Frame}
    (h : e ∈ insertFrame ref F m) : e = (ref, F) ∨ e ∈ m := by
  induction m with
  | nil => simpa [insertFrame] using h
  | cons d rest ih =>
    obtain ⟨k, G⟩ := d
    unfold insertFrame at h
    split at h
    · simpa using h
    · split at h
      · rcases List.mem_cons.1 h with rfl | h
        · exact .inl rfl
        · exact .inr (List.mem_cons_of_mem _ h)
      · rcases List.mem_cons.1 h with rfl | h
        · exact .inr (by simp)
        · exact (ih h).imp id (List.mem_cons_of_mem _)

/-- Storing a Frame in canonical form keeps the canonical form of the Frames. -/
theorem insertFrame_wf {m : List (Nat × Frame)} (ref : Nat) {F : Frame} (hm : Memory.wf m) (hF : F.wf) :
    Memory.wf (insertFrame ref F m) := by
  refine ⟨?_, ?_⟩
  · have hs := hm.1
    clear hm
    induction m with
    | nil => simp [insertFrame]
    | cons e rest ih =>
      obtain ⟨k, G⟩ := e
      simp only [List.map_cons, List.pairwise_cons] at hs
      unfold insertFrame
      split
      · rename_i hk
        simp only [List.map_cons, List.pairwise_cons, List.mem_cons]
        exact ⟨fun a ha => ha.elim (fun h => h ▸ hk) (fun h => hk.trans (hs.1 a h)), hs⟩
      · split
        · rename_i hk
          subst hk
          simpa using hs
        · rename_i h1 h2
          simp only [List.map_cons, List.pairwise_cons]
          refine ⟨fun a ha => ?_, ih hs.2⟩
          obtain ⟨d, hd, rfl⟩ := List.mem_map.1 ha
          rcases mem_insertFrame hd with rfl | hd
          · simp; omega
          · exact hs.1 _ (List.mem_map_of_mem hd)
  · intro e he
    rcases mem_insertFrame he with rfl | he
    · exact hF
    · exact hm.2 e he

/-! ## A Frame's packets -/

theorem mem_insertPacket {keep : DupKeep} {P Q : Packet} {l : List Packet} (h : Q ∈ insertPacket keep P l) :
    Q = P ∨ Q ∈ l := by
  induction l with
  | nil => simpa [insertPacket] using h
  | cons R rest ih =>
    unfold insertPacket at h
    split at h
    · simpa using h
    · split at h
      · cases keep
        · exact .inr h
        · rcases List.mem_cons.1 h with rfl | h
          · exact .inl rfl
          · exact .inr (List.mem_cons_of_mem _ h)
      · rcases List.mem_cons.1 h with rfl | h
        · exact .inr (by simp)
        · exact (ih h).imp id (List.mem_cons_of_mem _)

theorem insertPacket_sorted {keep : DupKeep} {P : Packet} {l : List Packet}
    (hl : (l.map Packet.seq).Pairwise (· < ·)) : ((insertPacket keep P l).map Packet.seq).Pairwise (· < ·) := by
  induction l with
  | nil => simp [insertPacket]
  | cons Q rest ih =>
    have hl' := hl
    simp only [List.map_cons, List.pairwise_cons] at hl'
    unfold insertPacket
    split
    · rename_i hk
      simp only [List.map_cons, List.pairwise_cons, List.mem_cons]
      exact ⟨fun a ha => ha.elim (fun h => h ▸ hk) (fun h => hk.trans (hl'.1 a h)), hl'⟩
    · split
      · rename_i hk
        cases keep
        · exact hl
        · simpa [hk] using hl'
      · simp only [List.map_cons, List.pairwise_cons]
        refine ⟨fun a ha => ?_, ih hl'.2⟩
        obtain ⟨R, hR, rfl⟩ := List.mem_map.1 ha
        rcases mem_insertPacket hR with rfl | hR
        · omega
        · exact hl'.1 _ (List.mem_map_of_mem hR)

/-- A packet whose number is above all the others is appended. -/
theorem insertPacket_append (keep : DupKeep) (P : Packet) (l : List Packet) (h : ∀ Q ∈ l, Q.seq < P.seq) :
    insertPacket keep P l = l ++ [P] := by
  induction l with
  | nil => rfl
  | cons Q rest ih =>
    have hq := h Q (by simp)
    simp only [insertPacket, List.cons_append]
    rw [if_neg (by omega), if_neg (by omega), ih fun R hR => h R (List.mem_cons_of_mem _ hR)]

theorem addPacket_wf {F : Frame} (P : Packet) (hF : F.wf) : (addPacket F P).wf := insertPacket_sorted hF

theorem suppliedFrame_wf (highest ssrc : Nat) (ptb : Byte) (keep : DupKeep) (packets : List Packet) :
    (suppliedFrame highest ssrc ptb keep packets).wf := by
  have : ∀ (ps m : List Packet), (m.map Packet.seq).Pairwise (· < ·) →
      ((ps.foldl (fun m P => insertPacket keep P m) m).map Packet.seq).Pairwise (· < ·) := by
    intro ps
    induction ps with
    | nil => exact fun m h => h
    | cons P ps ih => exact fun m h => ih _ (insertPacket_sorted h)
  exact this packets [] List.Pairwise.nil

/-- The Frames of the state after reset are in canonical form. -/
theorem reset_frames_wf : Memory.wf State.reset.frames := by decide

end Sys2Proof.Machine
end

