-- ==== Sys2Proof/Laws/Parse.lean ====
section
/-! SUPPORT. What the parsing rules and the per-packet transaction can do, said once. -/

namespace Sys2Proof.Machine

/-- `s` with `bs` staged, `fl` staged and CUR at `cur`: all that a parsing rule writes. -/
def staged (bs : Bytes) (fl : Byte) (cur : Nat) (s : State) : State :=
  { s with work := { s.work with stage := s.work.stage ++ bs, sflags := s.work.sflags ||| fl, cur := cur } }

/-- The SFLAGS bits that classifying a header sets. -/
def headerFlags (h : Byte) : Byte :=
  match flagBit (headerType h) with
  | some b => 1#8 <<< b
  | none => 0

theorem headerFlags_reserved (h : Byte) : headerFlags h &&& 0xE0 = 0 := by revert h; decide

@[simp] theorem staged_config (bs fl cur) (s : State) : (staged bs fl cur s).config = s.config := rfl
@[simp] theorem staged_cur (bs fl cur) (s : State) : (staged bs fl cur s).work.cur = cur := rfl

@[simp] theorem staged_staged (bs bs' fl fl' c c') (s : State) :
    staged bs' fl' c' (staged bs fl c s) = staged (bs ++ bs') (fl ||| fl') c' s := by
  simp [staged, BitVec.or_assoc]

@[simp] theorem setCur_staged (bs fl c c') (s : State) : setCur c' (staged bs fl c s) = staged bs fl c' s := rfl

@[simp] theorem staged_setCur (bs fl c c') (s : State) : staged bs fl c' (setCur c s) = staged bs fl c' s := rfl

@[simp] theorem staged_nothing (s : State) : staged [] 0#8 s.work.cur s = s := by simp [staged]

theorem stageAppend_eq (bs : Bytes) (s : State) : stageAppend bs s = staged bs 0 s.work.cur s := by
  simp [stageAppend, staged]

theorem classify_eq (h : Byte) (s : State) : classify h s = staged [] (headerFlags h) s.work.cur s := by
  cases hb : flagBit (headerType h) <;> simp [classify, headerFlags, hb, stageFlag, staged]

/-- `EmitUnit` of a unit with a header: an FBIT skip, or its record and its flag staged (R167). -/
theorem emitUnit_cons (h : Byte) (rest : Bytes) (s : State) :
    emitUnit (h :: rest) s =
      if s.config.strictF && headerF h then .error .fbit
      else .ok (staged (recordHead s.config h ++ h :: rest) (headerFlags h) s.work.cur s) := by
  simp only [emitUnit, classify_eq, stageAppend_eq, staged_staged, staged_cur]
  simp

/-- A Start fragment's head staged, or nothing (R223, R224). -/
theorem fragmentHead_eq (ind fuh : Byte) (s : State) :
    fragmentHead ind fuh s =
      if fuStart fuh then
        staged (startCode ++ [reconstructedHeader ind fuh]) (headerFlags (reconstructedHeader ind fuh)) s.work.cur s
      else s := by
  unfold fragmentHead
  split
  · simp [classify_eq, stageAppend_eq]
  · rfl

/-- The two switches of the configuration that a parsing rule looks at. -/
def Switches (strict zero : Bool) (s : State) : Prop := s.config.strictF = strict ∧ s.config.zeroByte = zero

/-- All that a parsing rule can do with a payload: skip it with one cause, or stage the same bytes and flags, whatever the
state, with bits 7:5 of the flags clear. -/
def Stages (rule : Bytes → State → Except SkipCause State) : Prop :=
  ∀ (p : Bytes) (strict zero : Bool),
    (∃ e, ∀ s, Switches strict zero s → rule p s = .error e) ∨
    (∃ bs fl, ∃ g : Nat → Nat, fl &&& 0xE0 = 0 ∧
      ∀ s, Switches strict zero s → rule p s = .ok (staged bs fl (g s.work.cur) s))

theorem reserved_stages : Stages reserved :=
  fun _ _ _ => .inr ⟨[], 0, id, by decide, fun s _ => by simp [reserved, staged_nothing]⟩

theorem recordHead_switches {strict zero : Bool} {s : State} (hs : Switches strict zero s) (h : Byte) :
    recordHead s.config h =
      recordHead { mtuDefault := 0, strictF := strict, zeroByte := zero, donSort := false, bufCap := none } h := by
  simp [recordHead, zeroByteApplies, hs.2]

theorem emitUnit_stages : Stages emitUnit := by
  intro u strict zero
  cases u with
  | nil => exact .inl ⟨.zeroSize, fun s _ => rfl⟩
  | cons h rest =>
    by_cases hf : (strict && headerF h) = true
    · exact .inl ⟨.fbit, fun s hs => by rw [emitUnit_cons, hs.1, if_pos hf]⟩
    · refine .inr ⟨recordHead ⟨0, strict, zero, false, none⟩ h ++ h :: rest, headerFlags h, id,
        headerFlags_reserved h, fun s hs => ?_⟩
      rw [emitUnit_cons, hs.1, if_neg hf, recordHead_switches hs]
      rfl

theorem singleNal_stages : Stages singleNal := emitUnit_stages

theorem or_reserved {a b : Byte} (ha : a &&& 0xE0 = 0) (hb : b &&& 0xE0 = 0) : (a ||| b) &&& 0xE0 = 0 := by
  revert a b
  decide +kernel

theorem aggregateUnits_stages (p : Bytes) (xtra : Nat) (strict zero : Bool) (turns : Nat) : ∀ c : Nat,
    (∃ e, ∀ s, Switches strict zero s → s.work.cur = c → aggregateUnits p xtra turns s = .error e) ∨
    (∃ bs fl c', fl &&& 0xE0 = 0 ∧
      ∀ s, Switches strict zero s → s.work.cur = c → aggregateUnits p xtra turns s = .ok (staged bs fl c' s)) := by
  induction turns with
  | zero => exact fun c => .inr ⟨[], 0, c, by decide, fun s _ hc => by simp [aggregateUnits, ← hc]⟩
  | succ n ih =>
    intro c
    by_cases h1 : p.length ≤ c
    · exact .inr ⟨[], 0, c, by decide, fun s _ hc => by
        subst hc; simp [aggregateUnits, h1]⟩
    cases h2 : size16 p c with
    | none => exact .inl ⟨.truncSize, fun s _ hc => by simp only [aggregateUnits, hc, h1, h2, if_false]⟩
    | some size =>
      by_cases h3 : p.length < c + 2 + xtra
      · exact .inl ⟨.truncExtra, fun s _ hc => by simp [aggregateUnits, hc, h1, h2, h3]⟩
      by_cases h4 : size = 0
      · exact .inl ⟨.zeroSize, fun s _ hc => by simp [aggregateUnits, hc, h1, h2, h3, h4]⟩
      by_cases h5 : p.length < c + 2 + xtra + size
      · exact .inl ⟨.truncUnit, fun s _ hc => by simp [aggregateUnits, hc, h1, h2, h3, h4, h5]⟩
      rcases emitUnit_stages (slice p (c + 2 + xtra) (c + 2 + xtra + size)) strict zero with
        ⟨e, he⟩ | ⟨bs, fl, g, hfl, hg⟩
      · exact .inl ⟨e, fun s hs hc => by simp [aggregateUnits, hc, h1, h2, h3, h4, h5, he s hs]⟩
      · rcases ih (c + 2 + xtra + size) with ⟨e, he⟩ | ⟨bs', fl', c', hfl', hk⟩
        · exact .inl ⟨e, fun s hs hc => by
            simp [aggregateUnits, hc, h1, h2, h3, h4, h5, hg s hs, he (staged bs fl (c + 2 + xtra + size) s) hs rfl]⟩
        · refine .inr ⟨bs ++ bs', fl ||| fl', c', or_reserved hfl hfl', fun s hs hc => ?_⟩
          simp [aggregateUnits, hc, h1, h2, h3, h4, h5, hg s hs, hk (staged bs fl (c + 2 + xtra + size) s) hs rfl]

theorem aggregate_stages (a : AggParams) : Stages (aggregate a) := by
  intro p strict zero
  by_cases h : p.length < 1 + a.donb
  · exact .inl ⟨.truncDon, fun s _ => by simp [aggregate, h]⟩
  · rcases aggregateUnits_stages p a.xtra strict zero p.length (1 + a.donb) with ⟨e, he⟩ | ⟨bs, fl, c, hfl, hc⟩
    · exact .inl ⟨e, fun s hs => by simp [aggregate, h, he (setCur (1 + a.donb) s) hs rfl]⟩
    · exact .inr ⟨bs, fl, fun _ => c, hfl, fun s hs => by simp [aggregate, h, hc (setCur (1 + a.donb) s) hs rfl]⟩

theorem fragment_stages (don : Bool) : Stages (fragment don) := by
  have key : ∀ (ind fuh : Byte) (data : Bytes), ∃ bs fl, ∃ g : Nat → Nat, fl &&& 0xE0 = 0 ∧ ∀ s : State,
      stageAppend data (fragmentHead ind fuh s) = staged bs fl (g s.work.cur) s := by
    intro ind fuh data
    by_cases hS : fuStart fuh = true
    · exact ⟨startCode ++ [reconstructedHeader ind fuh] ++ data, headerFlags (reconstructedHeader ind fuh), id,
        headerFlags_reserved _, fun s => by simp [fragmentHead_eq, hS, stageAppend_eq]⟩
    · exact ⟨data, 0, id, by decide, fun s => by simp [fragmentHead_eq, hS, stageAppend_eq]⟩
  intro p strict zero
  match don, p with
  | false, ind :: fuh :: data =>
    obtain ⟨bs, fl, g, h, hk⟩ := key ind fuh data
    exact .inr ⟨bs, fl, g, h, fun s _ => by simp [fragment, hk]⟩
  | true, ind :: fuh :: _ :: _ :: data =>
    obtain ⟨bs, fl, g, h, hk⟩ := key ind fuh data
    exact .inr ⟨bs, fl, g, h, fun s _ => by simp [fragment, hk]⟩
  | true, [_, _] => exact .inl ⟨.truncDon, fun s _ => rfl⟩
  | true, [_, _, _] => exact .inl ⟨.truncDon, fun s _ => rfl⟩
  | false, [] => exact .inl ⟨.short, fun s _ => rfl⟩
  | false, [_] => exact .inl ⟨.short, fun s _ => rfl⟩
  | true, [] => exact .inl ⟨.short, fun s _ => rfl⟩
  | true, [_] => exact .inl ⟨.short, fun s _ => rfl⟩

/-- The precheck adds the SHORT and FBIT skips to a rule (R160, R161). -/
theorem parsePacket_stages {rule : Bytes → State → Except SkipCause State} (hr : Stages rule) :
    Stages (parsePacket rule) := by
  intro p strict zero
  match p with
  | [] => exact .inl ⟨.short, fun s _ => rfl⟩
  | [_] => exact .inl ⟨.short, fun s _ => rfl⟩
  | [_, _] => exact .inl ⟨.short, fun s _ => rfl⟩
  | h :: a :: b :: rest =>
    by_cases hf : (strict && headerF h) = true
    · exact .inl ⟨.fbit, fun s hs => by simp [parsePacket, hs.1, hf]⟩
    · rcases hr (h :: a :: b :: rest) strict zero with ⟨e, he⟩ | ⟨bs, fl, g, hfl, hg⟩
      · exact .inl ⟨e, fun s hs => by simp [parsePacket, hs.1, hf, he s hs]⟩
      · exact .inr ⟨bs, fl, g, hfl, fun s hs => by simp [parsePacket, hs.1, hf, hg s hs]⟩

/-- The state after a packet that staged `bs`, `fl` and left CUR at `cur` is committed (R134). -/
def afterCommit (bs : Bytes) (fl : Byte) (cur : Nat) (s : State) : State :=
  { s with
    obuf := s.obuf ++ bs, flags := s.flags ||| fl,
    work := { s.work with stage := [], sflags := 0, cur := cur, pktIdx := s.work.pktIdx + 1 } }

/-- The state after a packet is skipped (R251, R253). -/
def afterSkip (e : SkipCause) (q : Nat) (s : State) : State :=
  { s with
    skipCount := s.skipCount + 1, lastSkipCause := e.code, lastSkipSeq := q,
    work := { s.work with stage := [], sflags := 0, pktIdx := s.work.pktIdx + 1 } }

/-- A rule that skips: the transaction logs it. -/
theorem packetTransaction_skip {rule : Bytes → State → Except SkipCause State} {q : Nat} {p : Bytes} {s : State}
    {e : SkipCause} (h : parsePacket rule p (clearStage s) = .error e) :
    packetTransaction rule q p s = afterSkip e q s := by
  simp only [packetTransaction, h]
  rfl

/-- A rule that stages: the transaction commits, or ends the call with a fault (R134, R135). -/
theorem packetTransaction_commit {rule : Bytes → State → Except SkipCause State} {q : Nat} {p : Bytes} {s : State}
    {bs : Bytes} {fl : Byte} {cur : Nat} (h : parsePacket rule p (clearStage s) = .ok (staged bs fl cur (clearStage s))) :
    packetTransaction rule q p s =
      if exceedsCap s.config (s.obuf.length + bs.length) then
        abortCall .bufOverflow (staged bs fl cur (clearStage s))
      else afterCommit bs fl cur s := by
  unfold packetTransaction
  rw [h]
  simp only [commit]
  have hl : (staged bs fl cur (clearStage s)).work.stage = bs := by simp [staged, clearStage]
  have hf : (staged bs fl cur (clearStage s)).work.sflags = fl := by simp [staged, clearStage]
  rw [hl, hf, show (staged bs fl cur (clearStage s)).config = s.config from rfl,
    show (staged bs fl cur (clearStage s)).obufLen = s.obuf.length from rfl]
  by_cases hx : exceedsCap s.config (s.obuf.length + bs.length) = true
  · rw [if_pos hx, if_pos hx]
  · rw [if_neg hx, if_neg hx]
    rfl

/-- All that a per-packet transaction can do: skip with one cause, or commit the same bytes and flags, or fault where
they do not fit. -/
theorem packetTransaction_cases {rule : Bytes → State → Except SkipCause State} (hr : Stages rule) (p : Bytes)
    (strict zero : Bool) :
    (∃ e, ∀ q s, Switches strict zero s → packetTransaction rule q p s = afterSkip e q s) ∨
    (∃ bs fl, ∃ g : Nat → Nat, fl &&& 0xE0 = 0 ∧ ∀ q s, Switches strict zero s →
      packetTransaction rule q p s =
        if exceedsCap s.config (s.obuf.length + bs.length) then
          abortCall .bufOverflow (staged bs fl (g s.work.cur) (clearStage s))
        else afterCommit bs fl (g s.work.cur) s) := by
  rcases parsePacket_stages hr p strict zero with ⟨e, he⟩ | ⟨bs, fl, g, hfl, hg⟩
  · exact .inl ⟨e, fun q s hs => packetTransaction_skip (he (clearStage s) hs)⟩
  · exact .inr ⟨bs, fl, g, hfl, fun q s hs => packetTransaction_commit (hg (clearStage s) hs)⟩

/-- Every rule that the dispatch selects stages (R86). -/
theorem parseRule_stages (t : BitVec 5) : Stages (parseRule t) := by
  unfold parseRule
  split <;> first
    | exact reserved_stages
    | exact aggregate_stages _
    | exact fragment_stages _
    | exact singleNal_stages

theorem dispatchParse_stages : Stages dispatchParse := by
  intro p strict zero
  cases p with
  | nil => exact .inl ⟨.short, fun s _ => rfl⟩
  | cons h body => exact parseRule_stages (headerType h) (h :: body) strict zero

end Sys2Proof.Machine
end

