-- ==== Sys2Proof/Laws/Ops.lean ====
section
/-! SUPPORT. What each shared operation can do, said once: the priority of commands, the taking of faults, PACKETIZE's loop,
and the choice of what happens next. -/

namespace Sys2Proof.Machine

/-! ## Commands -/

theorem accepted_of {s : State} (h : s.config.donSort = false) (k : State → Out) : accepted s k = k s := by
  simp [accepted, h]

theorem accepted_next {s t : State} {k : State → Out} (h : accepted s k = .next t) :
    s.config.donSort = false ∧ k s = .next t := by
  cases hd : s.config.donSort
  · exact ⟨rfl, by simpa [accepted, hd] using h⟩
  · simp [accepted, hd] at h

/-- A ready machine goes on to the command itself (R258). -/
theorem issue_ready {s : State} (h : s.ready) (exempt : Bool) (k : State → Out) : issue exempt s k = k s := by
  simp [issue, accepted, h.1, h.2.1, h.2.2]

/-- All that an issued command can do: OVERLAP, a refusal, or the command itself (R257, R258). -/
theorem issue_next {exempt : Bool} {s t : State} {k : State → Out} (h : issue exempt s k = .next t) :
    s.config.donSort = false ∧
      ((s.busy = true ∧ t = recordFault .overlap s) ∨
        (s.busy = false ∧ s.fault ≠ 0 ∧ exempt = false ∧ t = returns .refused s) ∨
        (s.busy = false ∧ (s.fault = 0 ∨ exempt = true) ∧ k s = .next t)) := by
  obtain ⟨hd, h⟩ := accepted_next h
  refine ⟨hd, ?_⟩
  split at h
  · exact .inl ⟨‹_›, by cases h; rfl⟩
  · rename_i hb
    have hb : s.busy = false := by simpa using hb
    split at h
    · rename_i hf
      exact .inr (.inl ⟨hb, hf.1, hf.2, by cases h; rfl⟩)
    · rename_i hf
      refine .inr (.inr ⟨hb, ?_, h⟩)
      by_cases h0 : s.fault = 0
      · exact .inl h0
      · exact .inr (by simpa using fun he => hf ⟨h0, he⟩)

theorem withFrame_of {ref : Nat} {s : State} {F : Frame} (h : lookupFrame s.frames ref = some F) (k : Frame → Out) :
    withFrame ref s k = k F := by
  simp [withFrame, h]

theorem withFrame_next {ref : Nat} {s t : State} {k : Frame → Out} (h : withFrame ref s k = .next t) :
    ∃ F, lookupFrame s.frames ref = some F ∧ k F = .next t := by
  unfold withFrame at h
  split at h
  · exact ⟨_, ‹_›, h⟩
  · cases h

/-! ## Codes and faults -/

theorem FaultCode.code_range (c : FaultCode) : 1 ≤ c.code.toNat ∧ c.code.toNat ≤ 6 := by cases c <;> decide

theorem FaultCode.code_ne_zero (c : FaultCode) : c.code ≠ 0 := by cases c <;> decide

theorem SkipCause.code_range (c : SkipCause) : 1 ≤ c.code.toNat ∧ c.code.toNat ≤ 7 := by cases c <;> decide

theorem SkipCause.code_ne_zero (c : SkipCause) : c.code ≠ 0 := by cases c <;> decide

/-- Taking a fault writes FAULT only while it is 0, and then with the code (R31, R257). -/
theorem recordFault_fault_cases (c : FaultCode) (s : State) :
    (s.fault = 0 ∧ (recordFault c s).fault = c.code) ∨ (s.fault ≠ 0 ∧ (recordFault c s).fault = s.fault) := by
  by_cases h : s.fault = 0
  · exact .inl ⟨h, if_pos h⟩
  · exact .inr ⟨h, if_neg h⟩

theorem recordFault_fault_ne_zero (c : FaultCode) (s : State) : (recordFault c s).fault ≠ 0 := by
  rcases recordFault_fault_cases c s with ⟨-, h⟩ | ⟨h, h'⟩
  · exact h ▸ c.code_ne_zero
  · exact h' ▸ h

/-- The capacity check as an inequality (R134). -/
theorem exceedsCap_eq_false {c : Config} {n : Nat} : exceedsCap c n = false ↔ ∀ k, c.bufCap = some k → n ≤ k := by
  unfold exceedsCap
  split <;> simp_all

/-! ## PACKETIZE -/

/-- `Emit` writes only the Frames. -/
theorem emit_writes (ref : Nat) (payload : Bytes) (marker : Bool) (s : State) :
    emit ref payload marker s = { s with frames := (emit ref payload marker s).frames } := by
  unfold emit
  split <;> rfl

/-- `Emit` on a supplied Frame stores the Frame with its packet (R110). -/
theorem emit_of {ref : Nat} {payload : Bytes} {marker : Bool} {s : State} {F : Frame}
    (h : lookupFrame s.frames ref = some F) :
    emit ref payload marker s = setFrame ref (emitTo F payload marker) s := by
  simp [emit, h]

/-- `Emit` leaves the Frames of other references alone. -/
theorem emit_lookupFrame {ref r : Nat} {payload : Bytes} {marker : Bool} {s : State} (hr : r ≠ ref) :
    lookupFrame (emit ref payload marker s).frames r = lookupFrame s.frames r := by
  unfold emit
  split
  · simp [setFrame, lookupFrame_insertFrame, hr]
  · rfl

/-- `Emit` keeps the canonical form of the Frames. -/
theorem emit_wf {ref : Nat} {payload : Bytes} {marker : Bool} {s : State} (h : Memory.wf s.frames) :
    Memory.wf (emit ref payload marker s).frames := by
  unfold emit
  split
  · exact insertFrame_wf ref h (addPacket_wf _ (h.2 _ (lookupFrame_mem ‹_›)))
  · exact h

/-- `s` with other Frames and other transient registers: all that PACKETIZE's loop can make of `s`, with every other
reference reading as before and the Frames canonical if they were. -/
def PacketizeWrites (ref : Nat) (s t : State) : Prop :=
  t = { s with frames := t.frames, work := t.work } ∧
    (∀ r, r ≠ ref → lookupFrame t.frames r = lookupFrame s.frames r) ∧
    (Memory.wf s.frames → Memory.wf t.frames)

theorem PacketizeWrites.trans {ref : Nat} {s t u : State} (h : PacketizeWrites ref s t) (k : PacketizeWrites ref t u) :
    PacketizeWrites ref s u := by
  refine ⟨?_, fun r hr => (k.2.1 r hr).trans (h.2.1 r hr), fun hm => k.2.2 (h.2.2 hm)⟩
  rw [k.1, h.1]

theorem PacketizeWrites.work (ref : Nat) (s : State) (w : Work) : PacketizeWrites ref s { s with work := w } :=
  ⟨rfl, fun _ _ => rfl, id⟩

theorem PacketizeWrites.emit (ref : Nat) (payload : Bytes) (marker : Bool) (s : State) :
    PacketizeWrites ref s (Sys2Proof.Machine.emit ref payload marker s) := by
  refine ⟨?_, fun r hr => emit_lookupFrame hr, emit_wf⟩
  conv_lhs => rw [emit_writes]
  unfold Sys2Proof.Machine.emit
  split <;> rfl

theorem fragmentLoop_writes (nal : Bytes) (mtu ref turns : Nat) (s : State) :
    PacketizeWrites ref s (fragmentLoop nal mtu ref turns s) := by
  induction turns generalizing s with
  | zero => exact PacketizeWrites.work ref s s.work
  | succ n ih =>
    unfold fragmentLoop
    split
    · exact ((PacketizeWrites.emit ref _ _ s).trans (PacketizeWrites.work ref _ _)).trans (ih _)
    · exact PacketizeWrites.work ref s s.work

theorem packetizePath_writes (nal : Bytes) (h : Byte) (mtu ref : Nat) (s : State) :
    PacketizeWrites ref s (packetizePath nal h mtu ref s) := by
  unfold packetizePath
  split
  · exact (PacketizeWrites.work ref s _).trans (PacketizeWrites.emit ref nal true _)
  · exact (PacketizeWrites.work ref s _).trans (fragmentLoop_writes nal mtu ref nal.length _)

/-! ## What happens next -/

/-- All that can happen next: nothing; a host entry, on an idle ENGINE or overlapping a call; or the call in flight goes
on (R284, R285). -/
theorem nextEvent_cases (s : State) :
    (s.busy = false ∧ s.host = [] ∧ nextEvent s = (.idle, s)) ∨
    (∃ it rest, s.host = it :: rest ∧ (s.busy = false ∨ landsWhileBusy it = true) ∧
      nextEvent s = (hostEvent it.act, { s with host := rest })) ∨
    (s.busy = true ∧ nextEvent s = (engineEvent s.work, s)) := by
  unfold nextEvent
  split
  · rename_i it rest hh
    split
    · exact .inr (.inl ⟨it, rest, hh, ‹_›, rfl⟩)
    · rename_i hc
      have hb : s.busy = true := by
        cases h : s.busy
        · exact absurd (.inl h) hc
        · rfl
      exact .inr (.inr ⟨hb, rfl⟩)
  · cases h : s.busy <;> simp_all

/-- The ENGINE goes on with its call when no host entry overlaps it. -/
theorem nextEvent_busy {s : State} (hb : s.busy = true) (hh : ∀ it ∈ s.host.head?, it.overlap = false) :
    nextEvent s = (engineEvent s.work, s) := by
  unfold nextEvent
  split
  · rename_i it rest heq
    have : landsWhileBusy it = false := by
      have := hh it (by simp [heq])
      unfold landsWhileBusy
      split <;> simp_all
    simp [hb, this]
  · simp [hb]

/-- A host entry happens on an idle ENGINE. -/
theorem nextEvent_idle {s : State} {it : HostItem} {rest : List HostItem} (hb : s.busy = false)
    (hh : s.host = it :: rest) : nextEvent s = (hostEvent it.act, { s with host := rest }) := by
  simp [nextEvent, hh, hb]

end Sys2Proof.Machine
end

