-- ==== Sys2Proof/Laws/PerInstr.lean ====
section
/-! SUPPORT. Statements about every instruction, one lemma per constructor. -/

/-- Decoding the encoding of a well-formed instruction gives it back. -/
def Sys2Proof.Laws.RoundTrip.Statement (i : Sys2Proof.Instr) : Prop :=
  i.wf = true → Sys2Proof.decode (Sys2Proof.encode i) = .ok i

namespace Sys2Proof.Laws.RoundTrip

variable (q : Nat) (f : Bool) (nri : BitVec 2) (body : Bytes)

theorem reservedT0 : Statement (.reservedT0 q f nri body) := decode_encodePacket 0 q f nri body
theorem singleNalT1Slice : Statement (.singleNalT1Slice q f nri body) := decode_encodePacket 1 q f nri body
theorem singleNalT2 : Statement (.singleNalT2 q f nri body) := decode_encodePacket 2 q f nri body
theorem singleNalT3 : Statement (.singleNalT3 q f nri body) := decode_encodePacket 3 q f nri body
theorem singleNalT4 : Statement (.singleNalT4 q f nri body) := decode_encodePacket 4 q f nri body
theorem singleNalT5Idr : Statement (.singleNalT5Idr q f nri body) := decode_encodePacket 5 q f nri body
theorem singleNalT6Sei : Statement (.singleNalT6Sei q f nri body) := decode_encodePacket 6 q f nri body
theorem singleNalT7Sps : Statement (.singleNalT7Sps q f nri body) := decode_encodePacket 7 q f nri body
theorem singleNalT8Pps : Statement (.singleNalT8Pps q f nri body) := decode_encodePacket 8 q f nri body
theorem singleNalT9 : Statement (.singleNalT9 q f nri body) := decode_encodePacket 9 q f nri body
theorem singleNalT10 : Statement (.singleNalT10 q f nri body) := decode_encodePacket 10 q f nri body
theorem singleNalT11 : Statement (.singleNalT11 q f nri body) := decode_encodePacket 11 q f nri body
theorem singleNalT12 : Statement (.singleNalT12 q f nri body) := decode_encodePacket 12 q f nri body
theorem singleNalT13 : Statement (.singleNalT13 q f nri body) := decode_encodePacket 13 q f nri body
theorem singleNalT14 : Statement (.singleNalT14 q f nri body) := decode_encodePacket 14 q f nri body
theorem singleNalT15 : Statement (.singleNalT15 q f nri body) := decode_encodePacket 15 q f nri body
theorem singleNalT16 : Statement (.singleNalT16 q f nri body) := decode_encodePacket 16 q f nri body
theorem singleNalT17 : Statement (.singleNalT17 q f nri body) := decode_encodePacket 17 q f nri body
theorem singleNalT18 : Statement (.singleNalT18 q f nri body) := decode_encodePacket 18 q f nri body
theorem singleNalT19 : Statement (.singleNalT19 q f nri body) := decode_encodePacket 19 q f nri body
theorem singleNalT20 : Statement (.singleNalT20 q f nri body) := decode_encodePacket 20 q f nri body
theorem singleNalT21 : Statement (.singleNalT21 q f nri body) := decode_encodePacket 21 q f nri body
theorem singleNalT22 : Statement (.singleNalT22 q f nri body) := decode_encodePacket 22 q f nri body
theorem singleNalT23 : Statement (.singleNalT23 q f nri body) := decode_encodePacket 23 q f nri body
theorem stapA : Statement (.stapA q f nri body) := decode_encodePacket 24 q f nri body
theorem stapB : Statement (.stapB q f nri body) := decode_encodePacket 25 q f nri body
theorem mtap16 : Statement (.mtap16 q f nri body) := decode_encodePacket 26 q f nri body
theorem mtap24 : Statement (.mtap24 q f nri body) := decode_encodePacket 27 q f nri body
theorem fuA : Statement (.fuA q f nri body) := decode_encodePacket 28 q f nri body
theorem fuB : Statement (.fuB q f nri body) := decode_encodePacket 29 q f nri body
theorem reservedT30 : Statement (.reservedT30 q f nri body) := decode_encodePacket 30 q f nri body
theorem reservedT31 : Statement (.reservedT31 q f nri body) := decode_encodePacket 31 q f nri body
theorem packetize (nal : Option Bytes) (mtu : Option Nat) (frame : Nat) : Statement (.packetize nal mtu frame) := fun _ => rfl
theorem depacketize (frame : Nat) : Statement (.depacketize frame) := fun _ => rfl
theorem releaseBuffer : Statement (.releaseBuffer) := fun _ => rfl
theorem bufRead (n : Nat) : Statement (.bufRead n) := fun _ => rfl
theorem bufSeek (pos : Nat) : Statement (.bufSeek pos) := fun _ => rfl
theorem readReg (r : Nat) : Statement (.readReg r) := fun _ => rfl

end Sys2Proof.Laws.RoundTrip
end

