-- ==== Sys2Proof/Tests/Slice0.lean ====
section
/-! SUPPORT. The model's own tests, and a witness for the hypotheses of every statement that has some.

Expected results come from spec/95_test_vectors.md (the vector is named in the docstring) or, where a docstring names a rule,
from that rule by hand. -/

namespace Sys2Proof.Tests

open Sys2Proof Sys2Proof.Machine Sys2Proof.Machine.Claim

/-! ## Well-formedness: one ill-formed term for the check of each row (a payload of 2 bytes, R160) -/

theorem test_wf_refuses_short_payloads :
    [
Instr.reservedT0 1 false 3 [0x00], Instr.singleNalT1Slice 1 false 3 [0x00], Instr.singleNalT2 1 false 3 [0x00],
     Instr.singleNalT3 1 false 3 [0x00], Instr.singleNalT4 1 false 3 [0x00], Instr.singleNalT5Idr 1 false 3 [0x00],
     Instr.singleNalT6Sei 1 false 3 [0x00], Instr.singleNalT7Sps 1 false 3 [0x00], Instr.singleNalT8Pps 1 false 3 [0x00],
     Instr.singleNalT9 1 false 3 [0x00], Instr.singleNalT10 1 false 3 [0x00], Instr.singleNalT11 1 false 3 [0x00],
     Instr.singleNalT12 1 false 3 [0x00], Instr.singleNalT13 1 false 3 [0x00], Instr.singleNalT14 1 false 3 [0x00],
     Instr.singleNalT15 1 false 3 [0x00], Instr.singleNalT16 1 false 3 [0x00], Instr.singleNalT17 1 false 3 [0x00],
     Instr.singleNalT18 1 false 3 [0x00], Instr.singleNalT19 1 false 3 [0x00], Instr.singleNalT20 1 false 3 [0x00],
     Instr.singleNalT21 1 false 3 [0x00], Instr.singleNalT22 1 false 3 [0x00], Instr.singleNalT23 1 false 3 [0x00],
     Instr.stapA 1 false 3 [0x00], Instr.stapB 1 false 3 [0x00], Instr.mtap16 1 false 3 [0x00],
     Instr.mtap24 1 false 3 [0x00], Instr.fuA 1 false 3 [0x00], Instr.fuB 1 false 3 [0x00],
     Instr.reservedT30 1 false 3 [0x00], Instr.reservedT31 1 false 3 [0x00]].all (fun i => !i.wf) = true := by
  decide

theorem test_wf_accepts_three_bytes : (Instr.stapA 1 false 3 [0x00, 0x00]).wf = true := by decide

/-! ## Decoding: a word of every row, written out bit by bit from its encoding FNNTTTTT (R71, R86) or its code (R92) -/

theorem test_decode_reservedT0 :
    decode (.packet 7 [0b00000000, 0x12, 0x34]) = .ok (.reservedT0 7 false 0 [0x12, 0x34]) := by
  decide

theorem test_decode_singleNalT1Slice :
    decode (.packet 7 [0b10000001, 0x12, 0x34]) = .ok (.singleNalT1Slice 7 true 0 [0x12, 0x34]) := by
  decide

theorem test_decode_singleNalT2 :
    decode (.packet 7 [0b00100010, 0x12, 0x34]) = .ok (.singleNalT2 7 false 1 [0x12, 0x34]) := by
  decide

theorem test_decode_singleNalT3 :
    decode (.packet 7 [0b10100011, 0x12, 0x34]) = .ok (.singleNalT3 7 true 1 [0x12, 0x34]) := by
  decide

theorem test_decode_singleNalT4 :
    decode (.packet 7 [0b01000100, 0x12, 0x34]) = .ok (.singleNalT4 7 false 2 [0x12, 0x34]) := by
  decide

theorem test_decode_singleNalT5Idr :
    decode (.packet 7 [0b11000101, 0x12, 0x34]) = .ok (.singleNalT5Idr 7 true 2 [0x12, 0x34]) := by
  decide

theorem test_decode_singleNalT6Sei :
    decode (.packet 7 [0b01100110, 0x12, 0x34]) = .ok (.singleNalT6Sei 7 false 3 [0x12, 0x34]) := by
  decide

theorem test_decode_singleNalT7Sps :
    decode (.packet 7 [0b11100111, 0x12, 0x34]) = .ok (.singleNalT7Sps 7 true 3 [0x12, 0x34]) := by
  decide

theorem test_decode_singleNalT8Pps :
    decode (.packet 7 [0b00001000, 0x12, 0x34]) = .ok (.singleNalT8Pps 7 false 0 [0x12, 0x34]) := by
  decide

theorem test_decode_singleNalT9 :
    decode (.packet 7 [0b10001001, 0x12, 0x34]) = .ok (.singleNalT9 7 true 0 [0x12, 0x34]) := by
  decide

theorem test_decode_singleNalT10 :
    decode (.packet 7 [0b00101010, 0x12, 0x34]) = .ok (.singleNalT10 7 false 1 [0x12, 0x34]) := by
  decide

theorem test_decode_singleNalT11 :
    decode (.packet 7 [0b10101011, 0x12, 0x34]) = .ok (.singleNalT11 7 true 1 [0x12, 0x34]) := by
  decide

theorem test_decode_singleNalT12 :
    decode (.packet 7 [0b01001100, 0x12, 0x34]) = .ok (.singleNalT12 7 false 2 [0x12, 0x34]) := by
  decide

theorem test_decode_singleNalT13 :
    decode (.packet 7 [0b11001101, 0x12, 0x34]) = .ok (.singleNalT13 7 true 2 [0x12, 0x34]) := by
  decide

theorem test_decode_singleNalT14 :
    decode (.packet 7 [0b01101110, 0x12, 0x34]) = .ok (.singleNalT14 7 false 3 [0x12, 0x34]) := by
  decide

theorem test_decode_singleNalT15 :
    decode (.packet 7 [0b11101111, 0x12, 0x34]) = .ok (.singleNalT15 7 true 3 [0x12, 0x34]) := by
  decide

theorem test_decode_singleNalT16 :
    decode (.packet 7 [0b00010000, 0x12, 0x34]) = .ok (.singleNalT16 7 false 0 [0x12, 0x34]) := by
  decide

theorem test_decode_singleNalT17 :
    decode (.packet 7 [0b10010001, 0x12, 0x34]) = .ok (.singleNalT17 7 true 0 [0x12, 0x34]) := by
  decide

theorem test_decode_singleNalT18 :
    decode (.packet 7 [0b00110010, 0x12, 0x34]) = .ok (.singleNalT18 7 false 1 [0x12, 0x34]) := by
  decide

theorem test_decode_singleNalT19 :
    decode (.packet 7 [0b10110011, 0x12, 0x34]) = .ok (.singleNalT19 7 true 1 [0x12, 0x34]) := by
  decide

theorem test_decode_singleNalT20 :
    decode (.packet 7 [0b01010100, 0x12, 0x34]) = .ok (.singleNalT20 7 false 2 [0x12, 0x34]) := by
  decide

theorem test_decode_singleNalT21 :
    decode (.packet 7 [0b11010101, 0x12, 0x34]) = .ok (.singleNalT21 7 true 2 [0x12, 0x34]) := by
  decide

theorem test_decode_singleNalT22 :
    decode (.packet 7 [0b01110110, 0x12, 0x34]) = .ok (.singleNalT22 7 false 3 [0x12, 0x34]) := by
  decide

theorem test_decode_singleNalT23 :
    decode (.packet 7 [0b11110111, 0x12, 0x34]) = .ok (.singleNalT23 7 true 3 [0x12, 0x34]) := by
  decide

theorem test_decode_stapA :
    decode (.packet 7 [0b00011000, 0x12, 0x34]) = .ok (.stapA 7 false 0 [0x12, 0x34]) := by
  decide

theorem test_decode_stapB :
    decode (.packet 7 [0b10011001, 0x12, 0x34]) = .ok (.stapB 7 true 0 [0x12, 0x34]) := by
  decide

theorem test_decode_mtap16 :
    decode (.packet 7 [0b00111010, 0x12, 0x34]) = .ok (.mtap16 7 false 1 [0x12, 0x34]) := by
  decide

theorem test_decode_mtap24 :
    decode (.packet 7 [0b10111011, 0x12, 0x34]) = .ok (.mtap24 7 true 1 [0x12, 0x34]) := by
  decide

theorem test_decode_fuA :
    decode (.packet 7 [0b01011100, 0x12, 0x34]) = .ok (.fuA 7 false 2 [0x12, 0x34]) := by
  decide

theorem test_decode_fuB :
    decode (.packet 7 [0b11011101, 0x12, 0x34]) = .ok (.fuB 7 true 2 [0x12, 0x34]) := by
  decide

theorem test_decode_reservedT30 :
    decode (.packet 7 [0b01111110, 0x12, 0x34]) = .ok (.reservedT30 7 false 3 [0x12, 0x34]) := by
  decide

theorem test_decode_reservedT31 :
    decode (.packet 7 [0b11111111, 0x12, 0x34]) = .ok (.reservedT31 7 true 3 [0x12, 0x34]) := by
  decide

theorem test_decode_packetize :
    decode (.command { code := 0b00000001, nal := some [0x41], mtu := some 3, frame := 2 }) =
      .ok (.packetize (some [0x41]) (some 3) 2) := by
  decide

theorem test_decode_depacketize : decode (.command { code := 0b00000010, frame := 2 }) = .ok (.depacketize 2) := by decide

theorem test_decode_releaseBuffer : decode (.command { code := 0b00000011 }) = .ok .releaseBuffer := by decide

theorem test_decode_bufRead : decode (.command { code := 0b00000100, num := 9 }) = .ok (.bufRead 9) := by decide

theorem test_decode_bufSeek : decode (.command { code := 0b00000101, num := 9 }) = .ok (.bufSeek 9) := by decide

theorem test_decode_readReg : decode (.command { code := 0b00000110, num := 9 }) = .ok (.readReg 9) := by decide

/-- HST-6, HST-7 and the last illegal code (R93). -/
theorem test_decode_illegal_codes :
    ([0x00, 0x07, 0xFF] : List Byte).map (fun c => decode (.command { code := c })) =
      [.error (.illegalCode 0x00), .error (.illegalCode 0x07), .error (.illegalCode 0xFF)] := by
  decide

/-- A table word with F and NRI bits set is the row of its low 5 bits (mask 0x1F). -/
theorem test_table_word : decodeTableWord 8 0b11111100 = some (.fuA 0 true 3 [0x00, 0x00]) := by decide

/-- The codes 0x01 to 0x06 are host commands (log 1). -/
theorem test_table_command : decodeTableWord 8 0x03 = some .releaseBuffer := by decide

/-! ## One packet step -/

/-- A DEPACKETIZE in flight whose one packet has number 1 and payload `p`. -/
def inCall (c : Config) (p : Bytes) : State :=
  { State.reset with config := c, busy := true, obufState := bufLive, work := { Work.reset with pkts := [(1, p)] } }

/-- The next state, where there is one. -/
def nextOf : Out → Option State
  | .next s => some s
  | _ => none

/-- `OBUF`, `FLAGS`, `SKIP_COUNT` and `LAST_SKIP_CAUSE` after the step of one packet. -/
def packetStep (c : Config) (p : Bytes) : Option (Bytes × Byte × Nat × BitVec 8) :=
  (nextOf (step (inCall c p))).map fun s => (s.obuf, s.flags, s.skipCount, s.lastSkipCause)

/-- R6's table with `P_STRICT_F = 1`. -/
def strictConfig : Config := { Config.standard with strictF := true }

/-- R6's table with `P_ZERO_BYTE = 0`. -/
def noZeroConfig : Config := { Config.standard with zeroByte := false }

/-- A packet step that writes `out` with `flags` and skips nothing. -/
def writes (c : Config) (p out : Bytes) (flags : Byte) : Bool := packetStep c p == some (out, flags, 0, 0)

/-- A packet step that is skipped with `cause`. -/
def skips (c : Config) (p : Bytes) (cause : BitVec 8) : Bool := packetStep c p == some ([], 0, 1, cause)

/-- DSP-4. -/
theorem test_slice : writes Config.standard [0x41, 0x00, 0x00] [0x00, 0x00, 0x01, 0x41, 0x00, 0x00] 0x08 = true := by decide

/-- DSP-16. -/
theorem test_slice_lenient_f : writes Config.standard [0xC1, 0x00, 0x00] [0x00, 0x00, 0x01, 0xC1, 0x00, 0x00] 0x08 = true := by decide

/-- DSP-5. -/
theorem test_idr : writes Config.standard [0x65, 0x88, 0x84] [0x00, 0x00, 0x01, 0x65, 0x88, 0x84] 0x10 = true := by decide

/-- DSP-21. -/
theorem test_idr_f_and_nri : writes Config.standard [0xC5, 0x01, 0x02] [0x00, 0x00, 0x01, 0xC5, 0x01, 0x02] 0x10 = true := by decide

/-- DSP-6. -/
theorem test_sei : writes Config.standard [0x06, 0x05, 0x01] [0x00, 0x00, 0x00, 0x01, 0x06, 0x05, 0x01] 0x04 = true := by decide

/-- DSP-7. -/
theorem test_sps : writes Config.standard [0x67, 0x42, 0x00] [0x00, 0x00, 0x00, 0x01, 0x67, 0x42, 0x00] 0x01 = true := by decide

/-- DSP-15. -/
theorem test_sps_no_zero_byte : writes noZeroConfig [0x67, 0x42, 0x00] [0x00, 0x00, 0x01, 0x67, 0x42, 0x00] 0x01 = true := by decide

/-- DSP-8. -/
theorem test_pps : writes Config.standard [0x68, 0xCE, 0x38, 0x80] [0x00, 0x00, 0x00, 0x01, 0x68, 0xCE, 0x38, 0x80] 0x02 = true := by decide

/-- DSP-9, DSP-10, DSP-11, and the other types of R164 without a flag. -/
theorem test_single_nal_without_flag :
    ([2, 3, 4, 9, 10, 11, 12, 13, 14, 15, 16, 17, 18, 19, 20, 21, 22, 23] : List Byte).all (fun t =>
      writes Config.standard [0x60 ||| t, 0x11, 0x22] [0x00, 0x00, 0x01, 0x60 ||| t, 0x11, 0x22] 0x00) = true := by
  decide

/-- DSP-12, DSP-13, DSP-14, DSP-18. -/
theorem test_reserved_types_write_nothing :
    ([0x00, 0x1E, 0x1F, 0x80] : List Byte).all (fun h => writes Config.standard [h, 0x00, 0x00] [] 0x00) = true := by
  decide

/-- DSP-1, DSP-2, DSP-3, DSP-20, AGG-16, FRG-7. -/
theorem test_short_payloads_are_skipped :
    (([[], [0x41], [0x41, 0x00], [0x79, 0x00], [0x7C, 0x85]] : List Bytes).all (fun p => skips Config.standard p 1) &&
      skips strictConfig [0x41, 0x00] 1) = true := by
  decide

/-- DSP-17, DSP-19, FRG-8s. -/
theorem test_strict_f_skips :
    ([[0xC1, 0x00, 0x00], [0x80, 0x00, 0x00], [0xFC, 0x85, 0x01]] : List Bytes).all (fun p => skips strictConfig p 2) =
      true := by
  decide

/-- AGG-1. -/
theorem test_stapA_two_units : writes Config.standard [0x78, 0x00, 0x04, 0x67, 0x42, 0x00, 0x1E, 0x00, 0x03, 0x41, 0x9A, 0x02] [0x00, 0x00, 0x00, 0x01, 0x67, 0x42, 0x00, 0x1E, 0x00, 0x00, 0x01, 0x41, 0x9A, 0x02] 0x09 = true := by decide

/-- AGG-6. -/
theorem test_stapA_rolls_back : skips Config.standard [0x78, 0x00, 0x02, 0x41, 0x9A, 0x00, 0x05, 0x67, 0x42] 7 = true := by decide

/-- AGG-15. -/
theorem test_stapB_unit : writes Config.standard [0x79, 0x00, 0x05, 0x00, 0x02, 0x68, 0xCE] [0x00, 0x00, 0x00, 0x01, 0x68, 0xCE] 0x02 = true := by decide

/-- AGG-14. -/
theorem test_stapB_don_only : writes Config.standard [0x79, 0x00, 0x05] [] 0x00 = true := by decide

/-- AGG-21. -/
theorem test_mtap16_two_units : writes Config.standard [0x7A, 0x00, 0x07, 0x00, 0x01, 0x00, 0x00, 0x00, 0x41, 0x00, 0x01, 0x01, 0x00, 0x05, 0x65] [0x00, 0x00, 0x01, 0x41, 0x00, 0x00, 0x01, 0x65] 0x18 = true := by decide

/-- AGG-20. -/
theorem test_mtap16_zero_size : skips Config.standard [0x7A, 0x00, 0x07, 0x00, 0x00, 0x01, 0x00, 0x10] 6 = true := by decide

/-- AGG-22. -/
theorem test_mtap24_unit : writes Config.standard [0x7B, 0x00, 0x07, 0x00, 0x03, 0x02, 0x00, 0x00, 0x20, 0x41, 0xE0, 0x01] [0x00, 0x00, 0x01, 0x41, 0xE0, 0x01] 0x08 = true := by decide

/-- AGG-24. -/
theorem test_mtap24_truncated_extra : skips Config.standard [0x7B, 0x00, 0x07, 0x00, 0x01, 0x02, 0x00, 0x00] 5 = true := by decide

/-- FRG-8. -/
theorem test_fuA_start : writes Config.standard [0xFC, 0x85, 0x01] [0x00, 0x00, 0x01, 0xE5, 0x01] 0x10 = true := by decide

/-- FRG-12. -/
theorem test_fuA_continuation : writes Config.standard [0x7C, 0x07, 0x11] [0x11] 0x00 = true := by decide

/-- FRG-13. -/
theorem test_fuB_start : writes Config.standard [0x7D, 0x85, 0x00, 0x09, 0x88, 0x99] [0x00, 0x00, 0x01, 0x65, 0x88, 0x99] 0x10 = true := by decide

/-- FRG-14. -/
theorem test_fuB_truncated_don : skips Config.standard [0x7D, 0x85, 0x00] 3 = true := by decide

/-! ## One command step -/

/-- A Frame without packets (the worked examples of R118 start at `highest = 99`). -/
def emptyFrame : Frame := { pkts := [], highest := 99, ssrc := 0x1234, ptb := 0x60, dupKeep := .first }

/-- An idle machine whose Frame 0 is `emptyFrame`. -/
def idle : State := { State.reset with frames := [(0, emptyFrame)] }

/-- `s` with `c` the only thing that the host does. -/
def issuing (c : HostCmd) (s : State) : State := { s with host := [⟨false, .command c⟩] }

/-- Payloads and markers of Frame 0 after the step of one PACKETIZE, with `highest` and `FAULT`. -/
def packetizeStep (nal : Option Bytes) (mtu : Option Nat) : Option (List (Nat × Bytes × Bool) × Nat × BitVec 8) :=
  (nextOf (step (issuing { code := 0x01, nal := nal, mtu := mtu } idle))).bind fun s =>
    (lookupFrame s.frames 0).map fun F => (F.pkts.map fun P => (P.seq, P.payload, P.marker), F.highest, s.fault)

/-- PKZ-10, R118. -/
theorem test_packetize_fragments :
    packetizeStep (some [0x65, 0x88, 0x84, 0x00, 0x21]) (some 2) =
      some ([(100, [0x7C, 0x85, 0x88], false), (101, [0x7C, 0x05, 0x84, 0x00], false), (102, [0x7C, 0x45, 0x21], true)],
        102, 0) := by
  decide

/-- PKZ-2, PKZ-3, PKZ-5, PKZ-6. -/
theorem test_packetize_edges :
    (packetizeStep (some []) (some 0) == some ([], 99, 0) && packetizeStep (some [0x41]) (some 0) == some ([], 99, 2) &&
      packetizeStep (some [0x41, 0x9A, 0x02]) (some 4) == some ([(100, [0x41, 0x9A, 0x02], true)], 100, 0) &&
      packetizeStep (some [0x41, 0x9A, 0x02]) (some 3) == some ([(100, [0x5C, 0xC1, 0x9A, 0x02], true)], 100, 0)) =
      true := by
  decide

/-- The packet of a Frame with number `q` and payload `p`. -/
def packetOf (q : Nat) (p : Bytes) : Packet :=
  { seq := q, marker := true, ssrc := 0x1234, ptb := 0x60, version := 2, padding := false, extension := false,
    payload := p }

/-- The Frame of HST-11. -/
def twoPackets : Frame :=
  { emptyFrame with
    pkts := [packetOf 1 [0x41, 0x9A, 0x02], packetOf 2 [0x67, 0x42, 0x00, 0x1E, 0x00, 0x00, 0x00, 0x00]] }

/-- A LIVE buffer left by an earlier call. -/
def live : State :=
  { idle with
    frames := [(0, emptyFrame), (3, twoPackets)], obuf := [0x00, 0x00, 0x01, 0x65, 0x88], obufState := bufLive,
    flags := 0x10, skipCount := 2, lastSkipCause := 1, lastSkipSeq := 9 }

/-- R131, R132: call start empties the buffer, the flags and the skip log and takes the snapshot. -/
theorem test_depacketize_starts :
    (nextOf (step (issuing { code := 0x02, frame := 3 } live))).map (fun s =>
      (statusWord s, s.obuf, s.work.pkts)) =
      some (0x00000005, [],
        [(1, [0x41, 0x9A, 0x02]), (2, [0x67, 0x42, 0x00, 0x1E, 0x00, 0x00, 0x00, 0x00])]) := by
  decide

/-- HST-11: packet 2 of a call with `P_BUF_CAP = 10` and 6 bytes committed. -/
theorem test_overflow_ends_the_call :
    (nextOf (step { inCall { Config.standard with bufCap := some 10 } [0x67, 0x42, 0x00, 0x1E, 0x00, 0x00, 0x00, 0x00] with
      obuf := [0x00, 0x00, 0x01, 0x41, 0x9A, 0x02], flags := 0x08 })).map (fun s => (s.obuf, s.flags, statusWord s)) =
      some ([0x00, 0x00, 0x01, 0x41, 0x9A, 0x02], 0x08, 0x00000501) := by
  decide

/-- HST-16: a release keeps FLAGS and the skip log. -/
theorem test_release :
    (nextOf (step (issuing { code := 0x03 } live))).map (fun s => (s.obuf, statusWord s, s.flags, s.skipCount)) =
      some ([], 0x00010002, 0x10, 2) := by
  decide

/-- The reply, RDPOS and FAULT after the step of one command. -/
def commandStep (c : HostCmd) (s : State) : Option (Reply × Nat × BitVec 8) :=
  (nextOf (step (issuing c s))).map fun t => (t.reply, t.rdpos, t.fault)

/-- HST-13. -/
theorem test_buf_read :
    commandStep { code := 0x04, num := 3 } live = some (.bytes [0x00, 0x00, 0x01], 3, 0) ∧
      commandStep { code := 0x04, num := 9 } { live with rdpos := 3 } = some (.bytes [0x65, 0x88], 5, 0) ∧
      commandStep { code := 0x04, num := 1 } { live with rdpos := 5 } = some (.bytes [], 5, 0) := by
  decide

/-- HST-2. -/
theorem test_buf_read_without_buffer : commandStep { code := 0x04, num := 1 } idle = some (.aborted, 0, 1) := by decide

/-- HST-5, on a buffer of 5 bytes (R141). -/
theorem test_buf_seek :
    commandStep { code := 0x05, num := 5 } live = some (.none, 5, 0) ∧
      commandStep { code := 0x05, num := 6 } live = some (.aborted, 0, 6) := by
  decide

/-- HST-9. -/
theorem test_read_reg :
    [6, 7, 8, 255].map (fun r => commandStep { code := 0x06, num := r } State.reset) =
      [some (.value 2, 0, 0), some (.value 1500, 0, 0), some (.value 0, 0, 0), some (.value 0, 0, 0)] := by
  decide

/-- HST-8: `FAULT = 3`. -/
theorem test_read_reg_while_faulted :
    commandStep { code := 0x06, num := 1 } { idle with fault := 3 } = some (.value 0x300, 0, 3) ∧
      commandStep { code := 0x02 } { idle with fault := 3 } = some (.refused, 0, 3) := by
  decide

/-! ## Witnesses: for every statement with hypotheses, concrete values that meet them together -/

/-- A configuration with a bounded buffer. -/
def capped (n : Nat) : Config := { Config.standard with bufCap := some n }

theorem capped_fits {n m : Nat} {p : Bytes} (h : m ≤ n) : fits (inCall (capped n) p) m := by
  intro k hk
  cases hk
  exact (Nat.zero_add m).le.trans h

theorem idle_ready : idle.ready := ⟨rfl, rfl, rfl⟩

theorem live_ready : live.ready := ⟨rfl, rfl, rfl⟩

theorem witness_DecodeOfEncodeIsTheInstruction :
    (Instr.fuB 0 true 3 [0x00, 0x00]).wf = true ∧ (Instr.packetize none none 0).wf = true := by
  decide

theorem witness_EveryPacketSelectsExactlyOneRow :
    2 ≤ ([0x00, 0x00] : Bytes).length ∧ ([0x78, 0x00] : Bytes).length ≤ 2 ∧ ([] : Bytes).length ≤ 2 := by
  decide

theorem witness_StepRunsTheDecodedInstruction :
    let c : HostCmd := { code := 0x06, num := 1 }
    let s := issuing c idle
    let t := { inCall Config.standard [0x41, 0x00, 0x00] with host := [⟨true, .command c⟩] }
    let u := inCall Config.standard [0x41, 0x00, 0x00]
    (s.config.donSort = false ∧ s.busy = false ∧ s.host = [⟨false, .command c⟩] ∧
        decode (.command c) = .ok (.readReg 1)) ∧
      (t.config.donSort = false ∧ t.busy = true ∧ t.host = [⟨true, .command c⟩] ∧
        decode (.command c) = .ok (.readReg 1)) ∧
      (u.config.donSort = false ∧ u.busy = true ∧ (∀ it ∈ u.host.head?, it.overlap = false) ∧
        u.work.pkts[u.work.pktIdx]? = some (1, [0x41, 0x00, 0x00]) ∧
        decode (.packet 1 [0x41, 0x00, 0x00]) = .ok (.singleNalT1Slice 1 false 2 [0x00, 0x00])) := by
  decide

theorem witness_ResetClearsTheBlockAndWaits :
    let s := { live with fault := 5, host := [⟨false, .reset⟩] }
    (s.config.donSort = false ∧ s.busy = false ∧ s.host = [⟨false, .reset⟩]) ∧
      (live.config.donSort = false ∧ live.busy = false ∧ live.host = []) ∧
      ∃ t, step s = .next t ∧ s.fault ≠ 0 ∧ t.fault = 0 :=
  ⟨⟨rfl, rfl, rfl⟩, ⟨rfl, rfl, rfl⟩, _, rfl, by decide, rfl⟩

theorem inCall_inv : (inCall (capped 0) [0x1E, 0x00, 0x00]).Inv :=
  ⟨by decide, by decide, by decide, by decide, by decide, by decide, by decide, by decide, by decide, by decide, by decide⟩

theorem witness_EveryStepKeepsTheInvariant :
    (inCall (capped 0) [0x1E, 0x00, 0x00]).Inv ∧ ∃ t, step (inCall (capped 0) [0x1E, 0x00, 0x00]) = .next t :=
  ⟨inCall_inv, _, rfl⟩

theorem witness_EveryStepKeepsTheConfiguration : ∃ t, step live = .next t := ⟨_, rfl⟩

theorem witness_DonSortConfigurationIsRefused :
    ({ live with config := { live.config with donSort := true } } : State).config.donSort = true := rfl

theorem witness_SingleNalUnitIsWrittenWhole :
    let s := inCall (capped 7) []
    ((7, .singleNalT7Sps) : BitVec 5 × PacketRow) ∈ singleNalRows ∧ s.config.donSort = false ∧ 2 ≤ ([0x42, 0x00] : Bytes).length ∧
      (s.config.strictF && true) = false ∧
      fits s (recordOf s.config (headerByte true 3 7 :: [0x42, 0x00])).length :=
  ⟨by simp [singleNalRows], rfl, by decide, rfl, capped_fits (by decide)⟩

theorem witness_ReservedTypesAreIgnored :
    let s := inCall { capped 0 with strictF := true } []
    ((0, .reservedT0) : BitVec 5 × PacketRow) ∈ reservedRows ∧ s.config.donSort = false ∧
      2 ≤ ([0x00, 0x00] : Bytes).length ∧ (s.config.strictF && false) = false ∧ fits s 0 :=
  ⟨by simp [reservedRows], rfl, by decide, rfl, fun k _ => Nat.zero_le k⟩

/-- A unit of 65535 bytes, the longest of R83, is a good unit. -/
theorem longest_good_unit : goodUnit Config.standard 0 ([], List.replicate 65535 0x41) :=
  ⟨rfl, by rw [List.length_replicate]; omega, by rw [List.length_replicate]; omega, fun _ _ _ => rfl⟩

theorem witness_AggregationWritesEveryUnit :
    let s := inCall (capped 9) []
    let units : List (Bytes × Bytes) := [([0x00, 0x00, 0x00], [0x41]), ([0x01, 0x00, 0x05], [0x65])]
    ((2, 3, .mtap16) : Nat × Nat × PacketRow) ∈ aggregationRows ∧ s.config.donSort = false ∧
      (s.config.strictF && true) = false ∧ ([0x00, 0x07] : Bytes).length = 2 ∧
      (∀ e ∈ units, goodUnit s.config 3 e) ∧ 2 ≤ ([0x00, 0x07] ++ units.flatMap unitField).length ∧
      fits s (units.flatMap fun e => recordOf s.config e.2).length := by
  refine ⟨by simp [aggregationRows], rfl, rfl, rfl, ?_, by decide, fun k hk => ?_⟩
  · simp [goodUnit, inCall, capped, Config.standard]
  · cases hk
    decide

/-- The shortest packet of the statement: a DON and no unit (AGG-14). -/
theorem witness_AggregationWritesEveryUnit_without_units :
    ((2, 0, .stapB) : Nat × Nat × PacketRow) ∈ aggregationRows ∧
      (∀ e ∈ ([] : List (Bytes × Bytes)), goodUnit Config.standard 0 e) ∧
      2 ≤ (([0x00, 0x05] : Bytes) ++ ([] : List (Bytes × Bytes)).flatMap unitField).length :=
  ⟨by simp [aggregationRows], by simp, by decide⟩

/-- Each of the five bad units, after one good unit, at the edge of what makes it bad. -/
theorem witness_MalformedAggregationIsRolledBackWhole :
    ((2, 4, .mtap24) : Nat × Nat × PacketRow) ∈ aggregationRows ∧ strictConfig.donSort = false ∧
      (strictConfig.strictF && false) = false ∧ ([0x00, 0x07] : Bytes).length = 2 ∧
      goodUnit strictConfig 4 ([0x00, 0x00, 0x00, 0x00], [0x41]) ∧
      2 ≤ ([0x00, 0x07] ++ [(([0x00, 0x00, 0x00, 0x00], [0x41]) : Bytes × Bytes)].flatMap unitField ++ [0x00]).length ∧
      BadUnit strictConfig 4 [0x00] 4 ∧ BadUnit strictConfig 4 (be16 65535 ++ [0x00, 0x00, 0x00]) 5 ∧
      BadUnit strictConfig 4 (be16 0 ++ [0x00, 0x00, 0x00, 0x00] ++ []) 6 ∧
      BadUnit strictConfig 4 (be16 2 ++ [0x00, 0x00, 0x00, 0x00] ++ [0x41]) 7 ∧
      BadUnit strictConfig 4 (unitField ([0x00, 0x00, 0x00, 0x00], [0xC1]) ++ []) 2 :=
  ⟨by simp [aggregationRows], rfl, rfl, rfl, by simp [goodUnit, headerF, strictConfig, Config.standard], by decide,
    .truncSize _, .truncExtra _ _ (by decide) (by decide), .zeroSize _ _ rfl,
    .truncUnit _ _ _ (by decide) rfl (by decide), .fbit _ _ _ _ rfl (by decide) rfl (by decide)⟩

theorem witness_StartFragmentWritesTheReconstructedHeader :
    let s := inCall (capped 5) []
    let t := inCall (capped 4) []
    (((0, .fuA) : Nat × PacketRow) ∈ fragmentRows ∧ s.config.donSort = false ∧ (s.config.strictF && true) = false ∧
        (0x85 : Byte).getLsbD 7 = true ∧ ([] : Bytes).length = 0 ∧ 2 ≤ ((0x85 : Byte) :: ([] ++ [0x88])).length ∧
        fits s (4 + ([0x88] : Bytes).length)) ∧
      (((2, .fuB) : Nat × PacketRow) ∈ fragmentRows ∧ t.config.donSort = false ∧ (t.config.strictF && true) = false ∧
        ([0x00, 0x09] : Bytes).length = 2 ∧ 2 ≤ ((0x85 : Byte) :: ([0x00, 0x09] ++ [])).length ∧
        fits t (4 + ([] : Bytes).length)) :=
  ⟨⟨by simp [fragmentRows], rfl, rfl, by decide, rfl, by decide, capped_fits (by decide)⟩,
    by simp [fragmentRows], rfl, rfl, rfl, by decide, capped_fits (by decide)⟩

theorem witness_ContinuationFragmentAppendsItsDataOnly :
    let s := inCall (capped 1) []
    let t := inCall (capped 0) []
    (((0, .fuA) : Nat × PacketRow) ∈ fragmentRows ∧ s.config.donSort = false ∧ (s.config.strictF && true) = false ∧
        (0x45 : Byte).getLsbD 7 = false ∧ ([] : Bytes).length = 0 ∧ 2 ≤ ((0x45 : Byte) :: ([] ++ [0x21])).length ∧
        fits s ([0x21] : Bytes).length) ∧
      (((2, .fuB) : Nat × PacketRow) ∈ fragmentRows ∧ t.config.donSort = false ∧ (t.config.strictF && true) = false ∧
        ([0x00, 0x0A] : Bytes).length = 2 ∧ 2 ≤ ((0x45 : Byte) :: ([0x00, 0x0A] ++ [])).length ∧
        fits t ([] : Bytes).length) :=
  ⟨⟨by simp [fragmentRows], rfl, rfl, by decide, rfl, by decide, capped_fits (by decide)⟩,
    by simp [fragmentRows], rfl, rfl, rfl, by decide, capped_fits (by decide)⟩

theorem witness_FuBWithoutItsDonIsSkipped :
    (inCall strictConfig []).config.donSort = false ∧ ((inCall strictConfig []).config.strictF && false) = false :=
  ⟨rfl, rfl⟩

theorem witness_ShortPacketsContributeNothing :
    let s := inCall Config.standard [0x41, 0x00]
    ((5, .singleNalT5Idr) : BitVec 5 × PacketRow) ∈ packetRows ∧ s.config.donSort = false ∧
      ([0x88] : Bytes).length < 2 ∧ s.busy = true ∧ (∀ it ∈ s.host.head?, it.overlap = false) ∧
      s.work.pkts[s.work.pktIdx]? = some (1, [0x41, 0x00]) ∧ ([0x41, 0x00] : Bytes).length ≤ 2 :=
  ⟨by simp [packetRows, singleNalRows], rfl, by decide, rfl, by decide, rfl, by decide⟩

/-- Its three clauses: strict with 3 bytes, lenient with a next state, strict with 2 bytes. -/
theorem witness_StrictModeSkipsASetFBit :
    ((24, .stapA) : BitVec 5 × PacketRow) ∈ packetRows ∧
      ((inCall strictConfig []).config.donSort = false ∧ (inCall strictConfig []).config.strictF = true ∧
        2 ≤ ([0x00, 0x00] : Bytes).length ∧ ([0x00] : Bytes).length < 2) ∧
      ((inCall Config.standard []).config.strictF = false ∧
        ∃ t, exec (.stapA 1 true 3 [0x00, 0x01, 0xC1]) (inCall Config.standard []) = .next t) :=
  ⟨by simp [packetRows], ⟨rfl, rfl, by decide, by decide⟩, rfl, _, rfl⟩

/-- Its two clauses: no capacity and a next state; one byte too many for the capacity. -/
theorem witness_CommitBeyondCapacityFaults :
    let s := inCall (capped 5) []
    let u := { s with config := { s.config with bufCap := none } }
    ((5, .singleNalT5Idr) : BitVec 5 × PacketRow) ∈ packetRows ∧
      (u.config.bufCap = none ∧ ∃ t, exec (.singleNalT5Idr 1 false 3 [0x88, 0x84]) u = .next t) ∧
      (∃ t, exec (.singleNalT5Idr 1 false 3 [0x88, 0x84]) u = .next t ∧
        committed [0x00, 0x00, 0x01, 0x65, 0x88, 0x84] 0x10 0 u t) ∧
      ¬ fits s ([0x00, 0x00, 0x01, 0x65, 0x88, 0x84] : Bytes).length :=
  ⟨by simp [packetRows, singleNalRows], ⟨rfl, _, rfl⟩, ⟨_, rfl, _, _, rfl⟩, fun h => absurd (h 5 rfl) (by decide)⟩

/-- Its three cases: a commit that just fits, a short packet, and a commit that does not fit. -/
theorem witness_PacketsCommitWholeOrRollBackWhole :
    ((28, .fuA) : BitVec 5 × PacketRow) ∈ packetRows ∧
      (fits (inCall (capped 5) []) 5 ∧ ∃ t, exec (.fuA 1 false 3 [0x85, 0x88]) (inCall (capped 5) []) = .next t) ∧
      (∃ t, exec (.fuA 1 false 3 [0x85]) (inCall (capped 5) []) = .next t ∧ skippedAs 1 1 (inCall (capped 5) []) t) ∧
      (¬ fits (inCall (capped 4) []) 5 ∧ ∃ t, exec (.fuA 1 false 3 [0x85, 0x88]) (inCall (capped 4) []) = .next t) :=
  ⟨by simp [packetRows], ⟨capped_fits (by decide), _, rfl⟩, ⟨_, rfl, _, _, rfl⟩, fun h => absurd (h 4 rfl) (by decide), _, rfl⟩

theorem witness_EmptyNalIsANoOp :
    idle.ready ∧ lookupFrame idle.frames 0 = some emptyFrame ∧ ((none : Option Bytes) = none ∨ (none : Option Bytes) = some []) :=
  ⟨idle_ready, rfl, .inl rfl⟩

/-- An MTU of 0 given, and an MTU of 0 by default. -/
theorem witness_ZeroMtuIsAFault :
    let s := { idle with config := { idle.config with mtuDefault := 0 } }
    idle.ready ∧ lookupFrame idle.frames 0 = some emptyFrame ∧ (some 0).getD idle.config.mtuDefault = 0 ∧ s.ready ∧
      lookupFrame s.frames 0 = some emptyFrame ∧ (none : Option Nat).getD s.config.mtuDefault = 0 :=
  ⟨idle_ready, rfl, rfl, ⟨rfl, rfl, rfl⟩, rfl, rfl⟩

/-- `L = mtu - 1` (PKZ-5). -/
theorem witness_ShortNalIsOnePacketVerbatim :
    idle.ready ∧ lookupFrame idle.frames 0 = some emptyFrame ∧ ([0x41, 0x9A, 0x02] : Bytes) ≠ [] ∧
      ([0x41, 0x9A, 0x02] : Bytes).length < (some 4).getD idle.config.mtuDefault :=
  ⟨idle_ready, rfl, by decide, by decide⟩

theorem emptyFrame_keys : keysBelowHighest emptyFrame := fun P hP => by cases hP

/-- `L = mtu` (PKZ-6) and `mtu = 1` (PKZ-8). -/
theorem witness_LongNalBecomesItsFuAFragments :
    idle.ready ∧ lookupFrame idle.frames 0 = some emptyFrame ∧ keysBelowHighest emptyFrame ∧
      ((some 3).getD idle.config.mtuDefault = 3 ∧ 0 < 3 ∧ 3 ≤ ([0x41, 0x9A, 0x02] : Bytes).length) ∧
      ((some 1).getD idle.config.mtuDefault = 1 ∧ 0 < 1 ∧ 1 ≤ ([0x41, 0x9A, 0x02] : Bytes).length) :=
  ⟨idle_ready, rfl, emptyFrame_keys, ⟨rfl, by decide, by decide⟩, rfl, by decide, by decide⟩

/-- A Frame that holds the key `highest + 1`, and both paths: `L = mtu`, and `L = mtu - 1`. -/
theorem witness_PacketizeStoresItsPacketsInAnyFrame :
    let F : Frame := { emptyFrame with pkts := [packetOf 100 [0x41]] }
    let s : State := { State.reset with frames := [(0, F)] }
    s.ready ∧ lookupFrame s.frames 0 = some F ∧ ¬ keysBelowHighest F ∧
      ((some 3).getD s.config.mtuDefault = 3 ∧ 0 < 3 ∧ ¬ ([0x41, 0x9A, 0x02] : Bytes).length < 3) ∧
      ((some 4).getD s.config.mtuDefault = 4 ∧ 0 < 4 ∧ ([0x41, 0x9A, 0x02] : Bytes).length < 4) :=
  ⟨⟨rfl, rfl, rfl⟩, rfl, fun h => absurd (h (packetOf 100 [0x41]) (List.mem_singleton.2 rfl)) (by decide), by decide,
    by decide⟩

/-- Its two clauses: a fragmented NAL with `mtu = 2`, and a NAL of `mtu - 1` bytes. -/
theorem witness_FragmentsRebuildTheNal :
    (idle.ready ∧ lookupFrame idle.frames 0 = some emptyFrame ∧ keysBelowHighest emptyFrame ∧
        (some 2).getD idle.config.mtuDefault = 2 ∧ 0 < 2 ∧ 2 ≤ ([0x41, 0x9A, 0x02] : Bytes).length ∧
        ∃ t, exec (.packetize (some [0x41, 0x9A, 0x02]) (some 2) 0) idle = .next t) ∧
      (([0x41] : Bytes) ≠ [] ∧ ([0x41] : Bytes).length < (some 2).getD idle.config.mtuDefault ∧
        ∃ t, exec (.packetize (some [0x41]) (some 2) 0) idle = .next t) :=
  ⟨⟨idle_ready, rfl, emptyFrame_keys, rfl, by decide, by decide, _, rfl⟩, by decide, by decide, _, rfl⟩

theorem witness_PacketizeTouchesOnlyItsFrame : ∃ t, exec (.packetize (some [0x41]) (some 1) 0) idle = .next t := ⟨_, rfl⟩

theorem witness_OnlyPacketizeWritesAFrame :
    (∀ nal mtu ref, Instr.depacketize 3 ≠ .packetize nal mtu ref) ∧ ∃ t, exec (.depacketize 3) live = .next t :=
  ⟨fun _ _ _ h => Instr.noConfusion h, _, rfl⟩

/-- A number that is free, one that is taken, and another number than the one added. -/
theorem witness_DuplicateNumbersFollowDupKeep : twoPackets.wf ∧ 3 ≠ (packetOf 2 []).seq ∧ 1 ≠ (packetOf 2 []).seq := by
  decide

theorem witness_DepacketizeStartsAFreshCall : live.ready ∧ lookupFrame live.frames 3 = some twoPackets :=
  ⟨live_ready, rfl⟩

theorem witness_CallEndReturnsTheFlags :
    let s := { inCall Config.standard [0x41, 0x00, 0x00] with work := { Work.reset with pkts := [(1, [])], pktIdx := 1 } }
    s.config.donSort = false ∧ s.busy = true ∧ (∀ it ∈ s.host.head?, it.overlap = false) ∧
      s.work.pkts.length ≤ s.work.pktIdx := by
  decide

theorem witness_PacketStepsRefineTheAtomicCall :
    let c : HostCmd := { code := 0x02, frame := 3 }
    let s := { live with host := [⟨false, .command c⟩, ⟨false, .command { code := 0x03 }⟩] }
    s.busy = false ∧ issues s c [⟨false, .command { code := 0x03 }⟩] ∧ c.code = 0x02 ∧
      lookupFrame s.frames c.frame = some twoPackets :=
  ⟨rfl, ⟨rfl, by decide⟩, rfl, rfl⟩

/-- Two states that differ in all but the snapshot: the second call on an unchanged Frame, with a buffer left by another. -/
theorem witness_DepacketizeResultDependsOnItsFrameOnly :
    let u := { idle with frames := [(5, { twoPackets with highest := 7 })] }
    live.ready ∧ u.ready ∧ live.config = u.config ∧ lookupFrame live.frames 3 = some twoPackets ∧
      lookupFrame u.frames 5 = some { twoPackets with highest := 7 } ∧
      twoPackets.pkts.map (fun P => (P.seq, P.payload)) =
        ({ twoPackets with highest := 7 } : Frame).pkts.map (fun P => (P.seq, P.payload)) ∧
      (∃ t, depacketizeAtomic 3 live = .next t) ∧ ∃ v, depacketizeAtomic 5 u = .next v :=
  ⟨live_ready, ⟨rfl, rfl, rfl⟩, rfl, rfl, rfl, rfl, ⟨_, rfl⟩, _, rfl⟩

theorem witness_EmptyFrameGivesAnEmptyBuffer :
    live.ready ∧ lookupFrame live.frames 0 = some emptyFrame ∧ emptyFrame.pkts = [] :=
  ⟨live_ready, rfl, rfl⟩

theorem witness_BufferIsTheContributionsInOrder :
    live.ready ∧ live.config.bufCap = none ∧ lookupFrame live.frames 3 = some twoPackets :=
  ⟨live_ready, rfl, rfl⟩

/-- `mtu = 1` and `mtu = L`, the buffer exactly large enough. -/
theorem witness_FragmentedNalRoundTrips :
    let s (m : Nat) := { idle with
      config := capped 6
      host := [⟨false, .command { code := 0x01, nal := some [0xC1, 0x9A, 0x02], mtu := some m, frame := 0 }⟩,
        ⟨false, .command { code := 0x02, frame := 0 }⟩] }
    ((s 1).ready ∧ lookupFrame (s 1).frames 0 = some emptyFrame ∧ emptyFrame.pkts = [] ∧
        (some 1).getD (s 1).config.mtuDefault = 1 ∧ 1 ≤ 1 ∧ 1 ≤ ([0xC1, 0x9A, 0x02] : Bytes).length ∧
        ((s 1).config.strictF && headerF 0xC1) = false ∧
        ∀ k, (s 1).config.bufCap = some k → 3 + ([0xC1, 0x9A, 0x02] : Bytes).length ≤ k) ∧
      ((s 3).ready ∧ (some 3).getD (s 3).config.mtuDefault = 3 ∧ 3 ≤ ([0xC1, 0x9A, 0x02] : Bytes).length) :=
  ⟨⟨⟨rfl, rfl, rfl⟩, rfl, rfl, rfl, by decide, by decide, rfl, fun k hk => by cases hk; decide⟩,
    ⟨rfl, rfl, rfl⟩, rfl, by decide⟩

/-- With a buffer of 5 bytes, all of them below the length: the call goes on. -/
theorem witness_BufferOnlyGrowsDuringACall :
    let s := { inCall Config.standard [0x41, 0x00, 0x00] with obuf := [0x00, 0x00, 0x01, 0x65, 0x88] }
    s.busy = true ∧ 4 < s.obuf.length ∧ ∃ t, step s = .next t ∧ t.busy = true :=
  ⟨rfl, by decide, _, rfl, rfl⟩

/-- Supplying and adding, to the Frame in use (0) and to another (3). -/
theorem witness_FrameMutationDuringACallFaults :
    let s (act : HostAct) := { inCall Config.standard [] with
      frames := [(0, emptyFrame), (3, twoPackets)], host := [⟨true, act⟩] }
    let act := HostAct.addPacket 0 (packetOf 1 [])
    let act' := HostAct.supplyFrame 3 0 0 0 .last []
    ((s act).config.donSort = false ∧ (s act).busy = true ∧ (s act).host = [⟨true, act⟩] ∧
        lookupFrame (s act).frames 0 = some emptyFrame ∧ (s act).work.frame = 0) ∧
      ((s act').config.donSort = false ∧ (s act').busy = true ∧ (s act').host = [⟨true, act'⟩] ∧
        (s act').work.frame ≠ 3) :=
  ⟨⟨rfl, rfl, rfl, rfl, rfl⟩, rfl, rfl, rfl, by decide⟩

theorem witness_ReleaseEmptiesTheBuffer :
    ({ live with fault := 5 } : State).config.donSort = false ∧ ({ live with fault := 5 } : State).busy = false :=
  ⟨rfl, rfl⟩

/-- Its two clauses; in the first also the last byte of the reply. -/
theorem witness_BufReadReturnsTheNextBytes :
    (live.ready ∧ live.obufState = 1 ∧ 4 < live.obuf.length) ∧ idle.ready ∧ idle.obufState ≠ 1 :=
  ⟨⟨live_ready, rfl, by decide⟩, idle_ready, by decide⟩

/-- Each of the three cases: no live buffer; one past the end; the end. -/
theorem witness_BufSeekSetsThePosition :
    (idle.ready ∧ idle.obufState ≠ 1) ∧ (live.ready ∧ live.obufState = 1 ∧ live.obuf.length < 6) ∧
      5 = live.obuf.length :=
  ⟨⟨idle_ready, by decide⟩, ⟨live_ready, by decide, by decide⟩, by decide⟩

theorem witness_ReadRegReadsTheRegisterMap : live.config.donSort = false ∧ live.busy = false := ⟨rfl, rfl⟩

/-- With the illegal codes at both ends. -/
theorem witness_FaultedMachineRefusesOtherCommands :
    let s := { issuing { code := 0x07 } idle with fault := 3 }
    s.config.donSort = false ∧ s.busy = false ∧ s.fault ≠ 0 ∧ s.host = [⟨false, .command { code := 0x07 }⟩] ∧
      7 ≤ (0x07 : Byte).toNat ∧ (0x00 : Byte).toNat = 0 := by
  decide

theorem witness_IllegalCodeFaults :
    let s := issuing { code := 0x00 } idle
    let u := issuing { code := 0x07 } idle
    (s.ready ∧ s.host = [⟨false, .command { code := 0x00 }⟩] ∧ (0x00 : Byte).toNat = 0) ∧
      (u.ready ∧ u.host = [⟨false, .command { code := 0x07 }⟩] ∧ 7 ≤ (0x07 : Byte).toNat) :=
  ⟨⟨⟨rfl, rfl, rfl⟩, rfl, rfl⟩, ⟨rfl, rfl, rfl⟩, rfl, by decide⟩

theorem witness_OverlappingCommandFaults :
    let s := { inCall Config.standard [0x41] with host := [⟨true, .command { code := 0xFF }⟩] }
    s.config.donSort = false ∧ s.busy = true ∧ s.host = [⟨true, .command { code := 0xFF }⟩] ∧ 7 ≤ (0xFF : Byte).toNat := by
  decide

/-- A step that raises a fault, and the reset that clears one. -/
theorem witness_FaultIsStickyUntilReset :
    (∃ t, step (issuing { code := 0x07 } idle) = .next t ∧ t.fault ≠ (issuing { code := 0x07 } idle).fault) ∧
      ∃ t, step { live with fault := 5, host := [⟨false, .reset⟩] } = .next t ∧
        t.fault ≠ ({ live with fault := 5, host := [⟨false, .reset⟩] } : State).fault :=
  ⟨⟨_, rfl, by decide⟩, _, rfl, by decide⟩

theorem witness_UnsuppliedFrameStopsTheModel : idle.ready ∧ lookupFrame idle.frames 1 = none := ⟨idle_ready, rfl⟩

theorem witness_HostAccessCommandsKeepFlagsAndLog :
    (∃ t, exec .releaseBuffer live = .next t) ∧ (∃ t, exec (.bufRead 2) live = .next t) ∧
      (∃ t, exec (.bufSeek 5) live = .next t) ∧ ∃ t, exec (.readReg 1) live = .next t :=
  ⟨⟨_, rfl⟩, ⟨_, rfl⟩, ⟨_, rfl⟩, _, rfl⟩

end Sys2Proof.Tests
end

/-! The scope of the model (spec/00_scope.md): what the machine runs in one step under an accepted configuration (R15),
and that any other configuration is refused (R16). -/

namespace Sys2Proof.Proofs.Scope

open Sys2Proof Sys2Proof.Machine

/-- A step under an accepted configuration is what happens next, run in the state it leaves (R16, R18). -/
theorem step_eq_accepted (s : State) : step s = accepted s fun s => runEvent (nextEvent s).1 (nextEvent s).2 := rfl

/-! ## The meaning of an instruction through its encoding -/

/-- On a packet of type `t` the dispatch on byte 0 selects the parsing rule of `t` (R86, R162). -/
theorem runPacket_dispatchParse (t : BitVec 5) (q : Nat) (f : Bool) (nri : BitVec 2) (body : Bytes) (s : State) :
    runPacket dispatchParse q (headerByte f nri t :: body) s =
      runPacket (parseRule t) q (headerByte f nri t :: body) s := by
  have hrule (u : State) : dispatchParse (headerByte f nri t :: body) u = parseRule t (headerByte f nri t :: body) u := by
    simp [dispatchParse]
  have hparse (u : State) : parsePacket dispatchParse (headerByte f nri t :: body) u =
      parsePacket (parseRule t) (headerByte f nri t :: body) u := by
    unfold parsePacket
    split
    · rw [hrule]
    · rfl
  unfold runPacket packetTransaction
  simp only [hparse]

/-- A packet-type instruction is the transaction of the packet it encodes to, dispatched on byte 0 (R133, R162). -/
theorem exec_of_encode_packet {i : Instr} {q : Nat} {p : Bytes} (h : encode i = .packet q p) (s : State) :
    exec i s = runPacket dispatchParse q p s := by
  cases i with
  | packetize | depacketize | releaseBuffer | bufRead | bufSeek | readReg => cases h
  | reservedT0 | reservedT30 | reservedT31
  | singleNalT1Slice | singleNalT2 | singleNalT3 | singleNalT4 | singleNalT5Idr | singleNalT6Sei | singleNalT7Sps
  | singleNalT8Pps | singleNalT9 | singleNalT10 | singleNalT11 | singleNalT12 | singleNalT13 | singleNalT14
  | singleNalT15 | singleNalT16 | singleNalT17 | singleNalT18 | singleNalT19 | singleNalT20 | singleNalT21
  | singleNalT22 | singleNalT23
  | stapA | stapB | mtap16 | mtap24 | fuA | fuB =>
    cases h
    exact (runPacket_dispatchParse _ _ _ _ _ s).symm

/-- A host command goes through the priorities of R258 before its own effect. -/
theorem exec_of_encode_command {i : Instr} {c : HostCmd} (h : encode i = .command c) :
    ∃ exempt k, ∀ s, exec i s = issue exempt s k := by
  cases i with
  | packetize | depacketize | releaseBuffer | bufRead | bufSeek | readReg => exact ⟨_, _, fun _ => rfl⟩
  | _ => cases h

/-! ## A configuration that is refused (R16) -/

theorem accepted_refused {s : State} (h : s.config.donSort = true) (k : State → Out) :
    accepted s k = .refused .donSortConfigured := by
  simp [accepted, h]

theorem exec_refused {s : State} (h : s.config.donSort = true) (i : Instr) :
    exec i s = .refused .donSortConfigured := by
  cases he : encode i with
  | packet q p =>
    rw [exec_of_encode_packet he]
    exact accepted_refused h _
  | command c =>
    obtain ⟨exempt, k, hexec⟩ := exec_of_encode_command he
    rw [hexec]
    exact accepted_refused h _

theorem step_refused {s : State} (h : s.config.donSort = true) : step s = .refused .donSortConfigured := by
  rw [step_eq_accepted]
  exact accepted_refused h _

/-- Settles O10: instructions and steps alike begin with the check of the configuration. -/
theorem donSortConfigurationIsRefused : Obligations.DonSortConfigurationIsRefused :=
  fun _ i h => ⟨exec_refused h i, step_refused h⟩

/-! ## One step under an accepted configuration -/

theorem runFetched_of_decode {x : Fetched} {i : Instr} (h : decode x = .ok i) (s : State) :
    runFetched x s = exec i s := by
  simp [runFetched, h]

/-- A step that fetches `x` runs the instruction `x` decodes to, in the state the fetch leaves. -/
theorem step_of_fetched {s t : State} {x : Fetched} {i : Instr} (hd : s.config.donSort = false)
    (he : nextEvent s = (.fetched x, t)) (hx : decode x = .ok i) : step s = exec i t := by
  calc step s = runEvent (nextEvent s).1 (nextEvent s).2 := by
        rw [step_eq_accepted, accepted_of hd]
    _ = runFetched x t := by rw [he, runEvent]
    _ = exec i t := runFetched_of_decode hx t

/-- An overlapping host entry happens before the call in flight goes on (R284, log 4). -/
theorem nextEvent_overlap {s : State} {it : HostItem} {rest : List HostItem} (hl : landsWhileBusy it = true)
    (hh : s.host = it :: rest) : nextEvent s = (hostEvent it.act, { s with host := rest }) := by
  simp [nextEvent, hh, hl]

theorem engineEvent_packet {w : Work} {q : Nat} {p : Bytes} (h : w.pkts[w.pktIdx]? = some (q, p)) :
    engineEvent w = .fetched (.packet q p) := by
  simp [engineEvent, h]

/-- Settles O4: in each of the three schedules the next event is the fetch. -/
theorem stepRunsTheDecodedInstruction : Obligations.StepRunsTheDecodedInstruction := by
  intro s i hd
  refine ⟨?idle, ?overlap, ?inCall⟩
  case idle =>
    intro o c rest hb hh hx
    exact step_of_fetched hd (nextEvent_idle hb hh) hx
  case overlap =>
    intro c rest _ hh hx
    exact step_of_fetched hd (nextEvent_overlap rfl hh) hx
  case inCall =>
    intro q p hb hh hp hx
    have he : nextEvent s = (.fetched (.packet q p), s) := by
      rw [nextEvent_busy hb hh, engineEvent_packet hp]
    exact step_of_fetched hd he hx

end Sys2Proof.Proofs.Scope

/-! What a packet, a command and a step can do, said once as the cases of an inductive relation, with the lemma that ties
each relation to the model. The invariants and frames of spec/10_state.md are read off the cases. -/

namespace Sys2Proof.Proofs.Effects

open Sys2Proof Sys2Proof.Machine Sys2Proof.Proofs.Scope

/-! ## Packets -/

/-- What the transaction of a packet numbered `q` can do (R133): skip it, commit it, or end the call at a commit that does
not fit (R134, R135). -/
inductive PacketEffect (q : Nat) (s : State) : State → Prop where
  | skipped (e : SkipCause) : PacketEffect q s (afterSkip e q s)
  | committed (bs : Bytes) (fl : Byte) (cur : Nat) (reservedClear : fl &&& 0xE0 = 0)
      (fits : exceedsCap s.config (s.obuf.length + bs.length) = false) : PacketEffect q s (afterCommit bs fl cur s)
  | overflowed (bs : Bytes) (fl : Byte) (cur : Nat)
      (overflow : exceedsCap s.config (s.obuf.length + bs.length) = true) :
      PacketEffect q s (abortCall .bufOverflow (staged bs fl cur (clearStage s)))

theorem packetTransaction_effect {rule : Bytes → State → Except SkipCause State} (hr : Stages rule) (q : Nat) (p : Bytes)
    (s : State) : PacketEffect q s (packetTransaction rule q p s) := by
  rcases packetTransaction_cases hr p s.config.strictF s.config.zeroByte with ⟨e, he⟩ | ⟨bs, fl, g, hfl, hg⟩
  · rw [he q s ⟨rfl, rfl⟩]
    exact .skipped e
  · rw [hg q s ⟨rfl, rfl⟩]
    split
    · next hover => exact .overflowed bs fl _ hover
    · next hfit => exact .committed bs fl _ hfl (by simpa using hfit)

theorem runPacket_effect {rule : Bytes → State → Except SkipCause State} (hr : Stages rule) {q : Nat} {p : Bytes}
    {s t : State} (h : runPacket rule q p s = .next t) : PacketEffect q s t := by
  obtain ⟨-, h⟩ := accepted_next h
  cases h
  exact packetTransaction_effect hr q p s

/-- A packet-type instruction runs the transaction of the packet it encodes to. -/
theorem exec_packet_effect {i : Instr} {q : Nat} {p : Bytes} (hi : encode i = .packet q p) {s t : State}
    (h : exec i s = .next t) : PacketEffect q s t := by
  rw [exec_of_encode_packet hi] at h
  exact runPacket_effect dispatchParse_stages h

/-- The row that the dispatch map gives a type encodes to a packet of that type (R86). -/
theorem encode_packetInstr (t : BitVec 5) (q : Nat) (f : Bool) (nri : BitVec 2) (body : Bytes) :
    encode (packetInstr t q f nri body) = encodePacket t q f nri body := by
  obtain ⟨⟨n, hn⟩⟩ := t
  interval_cases n <;> rfl

/-- The instruction decoded from a packet encodes to that packet. -/
theorem encode_of_decode_packet {q : Nat} {p : Bytes} {i : Instr} (h : decode (.packet q p) = .ok i) :
    encode i = .packet q p := by
  cases p with
  | nil => cases h
  | cons b body =>
    simp only [decode, decodePacket] at h
    split at h
    · cases h
      rw [encode_packetInstr, encodePacket, headerByte_fields]
    · cases h

theorem decode_packet_error {q : Nat} {p : Bytes} {e : DecodeError} (h : decode (.packet q p) = .error e) :
    e = .shortPayload := by
  cases p with
  | nil => cases h; rfl
  | cons b body =>
    simp only [decode, decodePacket] at h
    split at h <;> cases h
    rfl

/-- A fetched packet is skipped, committed, or ends the call, whether the dispatch takes it or not (R160). -/
theorem runFetched_packet_effect {q : Nat} {p : Bytes} {s t : State} (h : runFetched (.packet q p) s = .next t) :
    PacketEffect q s t := by
  cases hd : decode (.packet q p) with
  | ok i => exact exec_packet_effect (encode_of_decode_packet hd) (by rwa [runFetched_of_decode hd] at h)
  | error e =>
    cases decode_packet_error hd
    have hshort : runFetched (.packet q p) s = runPacket reserved q p s := by
      simp only [runFetched, hd]
      rfl
    exact runPacket_effect reserved_stages (hshort ▸ h)

/-! ## Commands -/

/-- What a command can do, by what its code and operands decode to: the conditions of R258 that come before it, the fault
of an illegal code (R93), or the cases of its own meaning. -/
inductive CommandEffect (s : State) : Except DecodeError Instr → State → Prop where
  | overlapped (x : Except DecodeError Instr) (busy : s.busy = true) : CommandEffect s x (recordFault .overlap s)
  | refused (x : Except DecodeError Instr) (idle : s.busy = false) (faulted : s.fault ≠ 0) :
      CommandEffect s x (returns .refused s)
  | illegal (code : Byte) (idle : s.busy = false) :
      CommandEffect s (.error (.illegalCode code)) (takeFault .illegalCmd s)
  | noNal (nal : Option Bytes) (mtu : Option Nat) (ref : Nat) (F : Frame) (idle : s.busy = false)
      (supplied : lookupFrame s.frames ref = some F) (empty : nal.getD [] = []) :
      CommandEffect s (.ok (.packetize nal mtu ref)) (returns (.frame F) s)
  | badMtu (nal : Option Bytes) (mtu : Option Nat) (ref : Nat) (idle : s.busy = false)
      (zero : mtu.getD s.config.mtuDefault = 0) :
      CommandEffect s (.ok (.packetize nal mtu ref)) (takeFault .badMtu s)
  | packetized (nal : Option Bytes) (mtu : Option Nat) (ref : Nat) (F : Frame) (u : State) (idle : s.busy = false)
      (writes : PacketizeWrites ref s u) :
      CommandEffect s (.ok (.packetize nal mtu ref)) (forgetPacketizer (returns (.frame F) u))
  | callBegun (ref : Nat) (F : Frame) (idle : s.busy = false) (supplied : lookupFrame s.frames ref = some F) :
      CommandEffect s (.ok (.depacketize ref)) (beginCall ref F s)
  | released (idle : s.busy = false) :
      CommandEffect s (.ok .releaseBuffer) (returns .none { s with obuf := [], rdpos := 0, obufState := bufReleased })
  | readNotLive (n : Nat) (idle : s.busy = false) (notLive : s.obufState ≠ bufLive) :
      CommandEffect s (.ok (.bufRead n)) (takeFault .bufNotLive s)
  | bytesRead (n : Nat) (idle : s.busy = false) (live : s.obufState = bufLive) :
      CommandEffect s (.ok (.bufRead n)) (returns (.bytes (slice s.obuf s.rdpos (s.rdpos + readCount n s)))
        { s with rdpos := s.rdpos + readCount n s })
  | seekNotLive (pos : Nat) (idle : s.busy = false) (notLive : s.obufState ≠ bufLive) :
      CommandEffect s (.ok (.bufSeek pos)) (takeFault .bufNotLive s)
  | badSeek (pos : Nat) (idle : s.busy = false) (beyond : s.obufLen < pos) :
      CommandEffect s (.ok (.bufSeek pos)) (takeFault .badSeek s)
  | sought (pos : Nat) (idle : s.busy = false) (live : s.obufState = bufLive) (inBuffer : pos ≤ s.obufLen) :
      CommandEffect s (.ok (.bufSeek pos)) (returns .none { s with rdpos := pos })
  | registerRead (r : Nat) (idle : s.busy = false) :
      CommandEffect s (.ok (.readReg r)) (returns (.value (regValue s r)) s)

/-- The conditions of R258 are the same for every command; what is left is the command's own meaning on an idle ENGINE. -/
theorem issue_effect {exempt : Bool} {s t : State} {k : State → Out} {x : Except DecodeError Instr}
    (own : s.busy = false → k s = .next t → CommandEffect s x t) (h : issue exempt s k = .next t) :
    CommandEffect s x t := by
  obtain ⟨-, ⟨hb, rfl⟩ | ⟨hb, hf, -, rfl⟩ | ⟨hb, -, hk⟩⟩ := issue_next h
  · exact .overlapped x hb
  · exact .refused x hb hf
  · exact own hb hk

theorem illegalCommand_effect (code : Byte) {s t : State} (h : illegalCommand s = .next t) :
    CommandEffect s (.error (.illegalCode code)) t :=
  issue_effect (fun hb hk => by cases hk; exact .illegal code hb) h

theorem execPacketize_effect {nal : Option Bytes} {mtu : Option Nat} {ref : Nat} {s t : State}
    (h : execPacketize nal mtu ref s = .next t) : CommandEffect s (.ok (.packetize nal mtu ref)) t := by
  refine issue_effect (fun hb hk => ?_) h
  obtain ⟨F, hF, hk⟩ := withFrame_next hk
  split at hk
  · next hnal =>
    cases hk
    exact .noNal nal mtu ref F hb hF hnal
  · split at hk
    · next hmtu =>
      cases hk
      exact .badMtu nal mtu ref hb hmtu
    · obtain ⟨G, -, hG⟩ := withFrame_next hk
      cases hG
      exact .packetized nal mtu ref G _ hb (packetizePath_writes _ _ _ ref s)

theorem execDepacketize_effect {ref : Nat} {s t : State} (h : execDepacketize ref s = .next t) :
    CommandEffect s (.ok (.depacketize ref)) t := by
  refine issue_effect (fun hb hk => ?_) h
  obtain ⟨F, hF, hk⟩ := withFrame_next hk
  cases hk
  exact .callBegun ref F hb hF

theorem execReleaseBuffer_effect {s t : State} (h : execReleaseBuffer s = .next t) :
    CommandEffect s (.ok .releaseBuffer) t :=
  issue_effect (fun hb hk => by cases hk; exact .released hb) h

theorem execBufRead_effect {n : Nat} {s t : State} (h : execBufRead n s = .next t) :
    CommandEffect s (.ok (.bufRead n)) t := by
  refine issue_effect (fun hb hk => ?_) h
  split at hk <;> cases hk
  · next hdead => exact .readNotLive n hb hdead
  · next hlive => exact .bytesRead n hb (not_not.1 hlive)

theorem execBufSeek_effect {pos : Nat} {s t : State} (h : execBufSeek pos s = .next t) :
    CommandEffect s (.ok (.bufSeek pos)) t := by
  refine issue_effect (fun hb hk => ?_) h
  split at hk
  · next hdead =>
    cases hk
    exact .seekNotLive pos hb hdead
  · next hlive =>
    split at hk <;> cases hk
    · next hpos => exact .badSeek pos hb hpos
    · next hpos => exact .sought pos hb (not_not.1 hlive) (not_lt.1 hpos)

theorem execReadReg_effect {r : Nat} {s t : State} (h : execReadReg r s = .next t) :
    CommandEffect s (.ok (.readReg r)) t :=
  issue_effect (fun hb hk => by cases hk; exact .registerRead r hb) h

/-- A host command runs by the cases of its own row (R92). -/
theorem exec_command_effect {i : Instr} {c : HostCmd} (hi : encode i = .command c) {s t : State}
    (h : exec i s = .next t) : CommandEffect s (.ok i) t := by
  cases i with
  | packetize nal mtu ref => exact execPacketize_effect h
  | depacketize ref => exact execDepacketize_effect h
  | releaseBuffer => exact execReleaseBuffer_effect h
  | bufRead n => exact execBufRead_effect h
  | bufSeek pos => exact execBufSeek_effect h
  | readReg r => exact execReadReg_effect h
  | _ => cases hi

/-- What a command code decodes to is a host command (R92). -/
theorem encode_of_decode_command {c : HostCmd} {i : Instr} (h : decode (.command c) = .ok i) :
    ∃ c', encode i = .command c' := by
  simp only [decode, decodeCommand] at h
  split at h <;> cases h <;> exact ⟨_, rfl⟩

theorem decode_command_error {c : HostCmd} {e : DecodeError} (h : decode (.command c) = .error e) :
    e = .illegalCode c.code := by
  simp only [decode, decodeCommand] at h
  split at h <;> cases h
  rfl

theorem runFetched_command_effect {c : HostCmd} {s t : State} (h : runFetched (.command c) s = .next t) :
    CommandEffect s (decode (.command c)) t := by
  cases hd : decode (.command c) with
  | ok i =>
    obtain ⟨c', hi⟩ := encode_of_decode_command hd
    exact exec_command_effect hi (by rwa [runFetched_of_decode hd] at h)
  | error e =>
    cases decode_command_error hd
    exact illegalCommand_effect c.code (by simpa only [runFetched, hd] using h)

/-! ## Steps -/

/-- A stored Frame is stored, and ends the call in flight that uses its reference (R283, R285). -/
theorem hostSetsFrame_cases (ref : Nat) (F : Frame) (s : State) :
    hostSetsFrame ref F s = setFrame ref F s ∨
      (s.busy = true ∧ s.work.frame = ref ∧ hostSetsFrame ref F s = abortCall .overlap (setFrame ref F s)) := by
  by_cases h : s.busy ∧ s.work.frame = ref
  · exact .inr ⟨h.1, h.2, if_pos h⟩
  · exact .inl (if_neg h)

/-- What a step can do (R15, R18, R281 to R287): nothing; a packet of the call in flight, or its end; a host entry: a
command, a Frame stored or added to, or a reset of the idle ENGINE. -/
inductive StepEffect (s : State) : State → Prop where
  | idle : StepEffect s s
  | packet (q : Nat) (p : Bytes) (t : State) (busy : s.busy = true) (current : s.work.pkts[s.work.pktIdx]? = some (q, p))
      (effect : PacketEffect q s t) : StepEffect s t
  | callEnd (busy : s.busy = true) : StepEffect s (callEnd s)
  | command (c : HostCmd) (rest : List HostItem) (t : State)
      (effect : CommandEffect { s with host := rest } (decode (.command c)) t) : StepEffect s t
  | stored (ref : Nat) (F : Frame) (rest : List HostItem) (canonical : Memory.wf s.frames → F.wf) :
      StepEffect s (hostSetsFrame ref F { s with host := rest })
  | reset (overlap : Bool) (rest : List HostItem) (idle : s.busy = false) (entry : s.host = ⟨overlap, .reset⟩ :: rest) :
      StepEffect s (resetBlock { s with host := rest })

/-- The call in flight goes on with its current packet, or ends (R132, R136). -/
theorem engineEvent_effect {s t : State} (hb : s.busy = true) (h : runEvent (engineEvent s.work) s = .next t) :
    StepEffect s t := by
  cases hp : s.work.pkts[s.work.pktIdx]? with
  | none =>
    simp only [engineEvent, hp, runEvent] at h
    cases h
    exact .callEnd hb
  | some e =>
    obtain ⟨q, p⟩ := e
    rw [engineEvent_packet hp] at h
    exact .packet q p t hb hp (runFetched_packet_effect h)

/-- The host's entry, which `nextEvent` has taken off the program. -/
theorem hostEvent_effect {s t : State} {it : HostItem} {rest : List HostItem} (hh : s.host = it :: rest)
    (hl : s.busy = false ∨ landsWhileBusy it = true)
    (h : runEvent (hostEvent it.act) { s with host := rest } = .next t) : StepEffect s t := by
  obtain ⟨overlap, act⟩ := it
  cases act with
  | command c => exact .command c rest t (runFetched_command_effect h)
  | supplyFrame ref highest ssrc ptb keep packets =>
    cases h
    exact .stored ref _ rest fun _ => suppliedFrame_wf highest ssrc ptb keep packets
  | addPacket ref P =>
    obtain ⟨F, hF, hk⟩ := withFrame_next h
    cases hk
    exact .stored ref _ rest fun hm => addPacket_wf P (hm.2 _ (lookupFrame_mem hF))
  | reset =>
    cases h
    exact .reset overlap rest (hl.resolve_right Bool.false_ne_true) hh

theorem step_effect {s t : State} (h : step s = .next t) : StepEffect s t := by
  obtain ⟨-, h⟩ := accepted_next (step_eq_accepted s ▸ h)
  rcases nextEvent_cases s with ⟨-, -, he⟩ | ⟨it, rest, hh, hl, he⟩ | ⟨hb, he⟩ <;> rw [he] at h
  · cases h
    exact .idle
  · exact hostEvent_effect hh hl h
  · exact engineEvent_effect hb h

end Sys2Proof.Proofs.Effects

/-! The registers, the configuration and the Frames (spec/10_state.md): the values at reset, the map of a Frame, what every
step keeps, and what single commands leave alone. -/

namespace Sys2Proof.Proofs.Registers

open Sys2Proof Sys2Proof.Machine Sys2Proof.Proofs.Effects

/-! ## Reset -/

/-- Settles O6: the fields of `State.reset`, read one by one. -/
theorem resetStateHoldsTheSpecValues : Obligations.ResetStateHoldsTheSpecValues :=
  ⟨rfl, rfl, rfl, rfl, rfl, rfl, rfl, rfl, rfl, rfl⟩

/-- An empty OBUF fits every capacity (R134). -/
theorem exceedsCap_zero (c : Config) : exceedsCap c 0 = false :=
  exceedsCap_eq_false.2 fun k _ => Nat.zero_le k

/-- Reset makes the invariant of any state whose Frames are canonical (R281, R282). -/
theorem resetBlock_inv {s : State} (hm : Memory.wf s.frames) : (resetBlock s).Inv where
  frames := hm
  flagsReserved := by simp
  faultCode := by simp
  causeCode := by simp
  obufState := by simp
  notLive := by simp
  rdpos := by simp
  capacity := exceedsCap_zero s.config
  skipLog := by simp
  skipCause := by simp
  inCall := by simp

/-- Settles O7: `State.reset` is what reset makes of itself. -/
theorem invariantHoldsAtReset : Obligations.InvariantHoldsAtReset :=
  resetBlock_inv (s := State.reset) reset_frames_wf

/-! ## The Frames -/

/-- Settles O29: the read-after-write law of the Frame store. -/
theorem storedFramesReadBack : Obligations.StoredFramesReadBack := lookupFrame_insertFrame

/-- Under another number a packet is found as before. -/
theorem find?_insertPacket_of_ne (keep : DupKeep) {P : Packet} {k : Nat} (hk : k ≠ P.seq) (l : List Packet) :
    (insertPacket keep P l).find? (fun Q => Q.seq == k) = l.find? (fun Q => Q.seq == k) := by
  have hP : (P.seq == k) = false := by simpa using hk.symm
  induction l with
  | nil => simp [insertPacket, hP]
  | cons Q rest ih =>
    unfold insertPacket
    split
    · simp [List.find?_cons, hP]
    · split
      · next hQ =>
        have hQk : (Q.seq == k) = false := hQ ▸ hP
        cases keep <;> simp [hP, hQk]
      · simp [List.find?_cons, ih]

/-- With LAST the added packet is the one found under its number. -/
theorem find?_insertPacket_last (P : Packet) (l : List Packet) :
    (insertPacket .last P l).find? (fun Q => Q.seq == P.seq) = some P := by
  induction l with
  | nil => simp [insertPacket]
  | cons Q rest ih =>
    unfold insertPacket
    split
    · simp
    · split
      · simp
      · next hQ => simpa [Ne.symm hQ] using ih

/-- With FIRST the packet found under the added number is the one that was there, if there was one. -/
theorem find?_insertPacket_first {P : Packet} {l : List Packet} (hl : (l.map Packet.seq).Pairwise (· < ·)) :
    (insertPacket .first P l).find? (fun Q => Q.seq == P.seq) =
      some ((l.find? fun Q => Q.seq == P.seq).getD P) := by
  induction l with
  | nil => simp [insertPacket]
  | cons Q rest ih =>
    obtain ⟨hQ, hrest⟩ := List.pairwise_cons.1 hl
    unfold insertPacket
    split
    · next hlt =>
      have hfree : (Q :: rest).find? (fun R => R.seq == P.seq) = none := by
        simp only [List.find?_eq_none, List.mem_cons, beq_iff_eq]
        rintro R (rfl | hR)
        · exact hlt.ne'
        · exact (hlt.trans (hQ _ (List.mem_map_of_mem hR))).ne'
      simp [hfree]
    · split
      · next hP => simp [hP]
      · next hP => simpa [Ne.symm hP] using ih hrest

/-- Settles O30: the two settings of P_DUP_KEEP, on a number in use and on a free one. -/
theorem duplicateNumbersFollowDupKeep : Obligations.DuplicateNumbersFollowDupKeep := by
  intro F P hF
  refine ⟨addPacket_wf P hF, rfl, fun k hk => find?_insertPacket_of_ne F.dupKeep hk F.pkts, ?_⟩
  simp only [addPacket]
  cases hkeep : F.dupKeep with
  | last =>
    rw [find?_insertPacket_last]
    cases F.pkts.find? (fun Q => Q.seq == P.seq) <;> rfl
  | first =>
    rw [find?_insertPacket_first hF]
    cases F.pkts.find? (fun Q => Q.seq == P.seq) <;> rfl

/-! ## The configuration (R33) -/

theorem packetEffect_config {q : Nat} {s t : State} (h : PacketEffect q s t) : t.config = s.config := by
  cases h <;> rfl

theorem commandEffect_config {s t : State} {x : Except DecodeError Instr} (h : CommandEffect s x t) :
    t.config = s.config := by
  cases h with
  | packetized nal mtu ref F u idle writes => exact (congrArg State.config writes.1 :)
  | _ => rfl

@[simp] theorem hostSetsFrame_config (ref : Nat) (F : Frame) (s : State) :
    (hostSetsFrame ref F s).config = s.config := by
  rcases hostSetsFrame_cases ref F s with h | ⟨-, -, h⟩ <;> rw [h] <;> rfl

/-- Settles O9: no case of a step writes the configuration; reset takes it over. -/
theorem everyStepKeepsTheConfiguration : Obligations.EveryStepKeepsTheConfiguration := by
  intro s t h
  cases step_effect h with
  | idle | callEnd | reset => rfl
  | packet q p t busy current effect => exact packetEffect_config effect
  | command c rest t effect => exact (commandEffect_config effect :)
  | stored ref F rest canonical => exact hostSetsFrame_config ref F _

/-! ## FAULT (R31) -/

/-- FAULT is as it was, or it was 0 and is one of the codes 1 to 6. -/
def FaultSticks (s t : State) : Prop :=
  t.fault = s.fault ∨ (s.fault = 0 ∧ 1 ≤ t.fault.toNat ∧ t.fault.toNat ≤ 6)

theorem FaultSticks.same {s t : State} (h : t.fault = s.fault) : FaultSticks s t := .inl h

/-- Taking a fault records its code only where FAULT is 0 (R257). -/
theorem FaultSticks.raised {s t : State} {c : FaultCode} (h : t.fault = if s.fault = 0 then c.code else s.fault) :
    FaultSticks s t := by
  by_cases h0 : s.fault = 0
  · rw [if_pos h0] at h
    exact .inr ⟨h0, h ▸ c.code_range⟩
  · rw [if_neg h0] at h
    exact .inl h

theorem FaultSticks.code_le {s t : State} (h : FaultSticks s t) (hs : s.fault.toNat ≤ 6) : t.fault.toNat ≤ 6 := by
  obtain h | ⟨-, -, h⟩ := h
  · exact h ▸ hs
  · exact h

theorem packetEffect_fault {q : Nat} {s t : State} (h : PacketEffect q s t) : FaultSticks s t := by
  cases h with
  | skipped | committed => exact .same rfl
  | overflowed bs fl cur => exact .raised (c := .bufOverflow) rfl

theorem commandEffect_fault {s t : State} {x : Except DecodeError Instr} (h : CommandEffect s x t) :
    FaultSticks s t := by
  cases h with
  | overlapped | illegal | badMtu | readNotLive | seekNotLive | badSeek => exact .raised rfl
  | packetized nal mtu ref F u idle writes => exact .same (congrArg State.fault writes.1 :)
  | refused | noNal | callBegun | released | bytesRead | sought | registerRead => exact .same rfl

theorem hostSetsFrame_fault (ref : Nat) (F : Frame) (s : State) : FaultSticks s (hostSetsFrame ref F s) := by
  rcases hostSetsFrame_cases ref F s with h | ⟨-, -, h⟩ <;> rw [h]
  · exact .same rfl
  · exact .raised rfl

/-- Settles O47: every case of a step but reset leaves FAULT alone or raises it from 0. -/
theorem faultIsStickyUntilReset : Obligations.FaultIsStickyUntilReset := by
  intro s t h hne
  cases step_effect h with
  | idle | callEnd => exact absurd rfl hne
  | packet q p t busy current effect => exact .inl ((packetEffect_fault effect).resolve_left hne)
  | command c rest t effect => exact .inl ((commandEffect_fault effect).resolve_left hne)
  | stored ref F rest canonical => exact .inl ((hostSetsFrame_fault ref F { s with host := rest }).resolve_left hne)
  | reset overlap rest idle entry => exact .inr ⟨rfl, idle, overlap, rest, entry⟩

/-! ## What single instructions leave alone -/

theorem packetEffect_frames {q : Nat} {s t : State} (h : PacketEffect q s t) : t.frames = s.frames := by
  cases h <;> rfl

/-- Of the commands only PACKETIZE writes the Frames (R37). -/
theorem commandEffect_frames {s t : State} {i : Instr} (hi : ∀ nal mtu ref, i ≠ .packetize nal mtu ref)
    (h : CommandEffect s (.ok i) t) : t.frames = s.frames := by
  cases h with
  | packetized nal mtu ref => exact absurd rfl (hi nal mtu ref)
  | _ => rfl

theorem readByte_frame_congr {s t : State} (h : t.frames = s.frames) (ref seq a : Nat) :
    readByte t (.frame ref seq) a = readByte s (.frame ref seq) a := by
  simp only [readByte, h]

/-- Settles O28: packets and the other commands leave the Frames, and a byte of a Frame is read from there. -/
theorem onlyPacketizeWritesAFrame : Obligations.OnlyPacketizeWritesAFrame := by
  intro i s t hi h
  have hframes : t.frames = s.frames := by
    cases he : encode i with
    | packet q p => exact packetEffect_frames (exec_packet_effect he h)
    | command c => exact commandEffect_frames hi (exec_command_effect he h)
  exact ⟨hframes, readByte_frame_congr hframes⟩

/-- `t` is `s` but for FAULT, the buffer, the read position and the reply: all that a host access command writes. -/
def AccessWrites (s t : State) : Prop :=
  ∃ fault obuf obufState rdpos reply, t =
    { s with fault := fault, obuf := obuf, obufState := obufState, rdpos := rdpos, reply := reply }

/-- A fault on an idle ENGINE leaves BUSY 0 as it was. -/
theorem takeFault_of_idle (c : FaultCode) {s : State} (hb : s.busy = false) : takeFault c s = recordFault c s := by
  simp [takeFault, ← hb, recordFault]

/-- The four commands by which the host reads the block or gives its buffer back (R139 to R142). -/
def HostAccess (i : Instr) : Prop :=
  i = .releaseBuffer ∨ (∃ n, i = .bufRead n) ∨ (∃ pos, i = .bufSeek pos) ∨ ∃ r, i = .readReg r

theorem commandEffect_accessWrites {s t : State} {i : Instr} (hi : HostAccess i) (h : CommandEffect s (.ok i) t) :
    AccessWrites s t := by
  cases h with
  | noNal | badMtu | packetized | callBegun => simp [HostAccess] at hi
  | readNotLive n idle | seekNotLive pos idle | badSeek pos idle =>
    rw [takeFault_of_idle _ idle]
    exact ⟨_, _, _, _, _, rfl⟩
  | overlapped | refused | released | bytesRead | sought | registerRead => exact ⟨_, _, _, _, _, rfl⟩

/-- Only RELEASE_BUFFER, of the four, writes the buffer and its state. -/
theorem commandEffect_keepsBuffer {s t : State} {i : Instr} (hi : HostAccess i) (hr : i ≠ .releaseBuffer)
    (h : CommandEffect s (.ok i) t) : t.obufState = s.obufState ∧ t.obuf = s.obuf := by
  cases h with
  | noNal | badMtu | packetized | callBegun => simp [HostAccess] at hi
  | released => exact absurd rfl hr
  | _ => exact ⟨rfl, rfl⟩

theorem commandEffect_rdpos_readReg {s t : State} {r : Nat} (h : CommandEffect s (.ok (.readReg r)) t) :
    t.rdpos = s.rdpos := by
  cases h <;> rfl

theorem HostAccess.encode {i : Instr} (hi : HostAccess i) : ∃ c, Sys2Proof.encode i = .command c := by
  obtain rfl | ⟨n, rfl⟩ | ⟨pos, rfl⟩ | ⟨r, rfl⟩ := hi <;> exact ⟨_, rfl⟩

theorem readByte_obuf_congr {s t : State} (h : t.obuf = s.obuf) (a : Nat) : readByte t .obuf a = readByte s .obuf a := by
  simp only [readByte, h]

/-- Settles O49: what the four commands write, and the finer frames of three of them. -/
theorem hostAccessCommandsKeepFlagsAndLog : Obligations.HostAccessCommandsKeepFlagsAndLog := by
  intro i s t hi h
  obtain ⟨c, hc⟩ := HostAccess.encode hi
  have effect : CommandEffect s (.ok i) t := exec_command_effect hc h
  have hbuffer (hr : i ≠ .releaseBuffer) : t.obufState = s.obufState ∧ t.obuf = s.obuf :=
    commandEffect_keepsBuffer hi hr effect
  have hrdpos (r : Nat) (hr : i = .readReg r) : t.rdpos = s.rdpos := commandEffect_rdpos_readReg (hr ▸ effect)
  obtain ⟨fault, obuf, obufState, rdpos, reply, rfl⟩ := commandEffect_accessWrites hi effect
  exact ⟨rfl, rfl, rfl, rfl, rfl, rfl, rfl, rfl, rfl, rfl,
    fun hr => ⟨(hbuffer hr).1, readByte_obuf_congr (hbuffer hr).2⟩, hrdpos⟩

/-! ## The invariant (R40) -/

/-- `t` has the configuration and the registers that the host reads, but for FAULT and BUSY, from `s`. -/
def KeepsRegisters (s t : State) : Prop :=
  t = { s with busy := t.busy, fault := t.fault, work := t.work, frames := t.frames, host := t.host, reply := t.reply,
               freeIdx := t.freeIdx }

/-- Beside the registers it keeps, a state has the invariant by its Frames, its FAULT, and the call it is in. -/
theorem inv_of_keepsRegisters {s t : State} (h : s.Inv) (keeps : KeepsRegisters s t) (frames : Memory.wf t.frames)
    (fault : FaultSticks s t) (call : t.busy = true → s.busy = true ∧ t.work = s.work) : t.Inv := by
  have hfault : t.fault.toNat ≤ 6 := fault.code_le h.faultCode
  have hcall (hb : t.busy = true) : s.obufState = bufLive ∧ s.rdpos = 0 ∧ (t.work.pkts.map Prod.fst).Pairwise (· < ·) ∧
      t.work.pktIdx ≤ t.work.pkts.length ∧ s.skipCount ≤ t.work.pktIdx := by
    obtain ⟨hs, hw⟩ := call hb
    rw [hw]
    exact h.inCall hs
  rw [keeps]
  exact ⟨frames, h.flagsReserved, hfault, h.causeCode, h.obufState, h.notLive, h.rdpos, h.capacity, h.skipLog,
    h.skipCause, hcall⟩

theorem inv_withHost {s : State} (h : s.Inv) (rest : List HostItem) : State.Inv { s with host := rest } :=
  inv_of_keepsRegisters h rfl h.frames (.same rfl) fun hb => ⟨hb, rfl⟩

/-- Taking a fault that ends the command keeps the invariant: the buffer stays as it is (R257). -/
theorem takeFault_inv {s : State} (h : s.Inv) (c : FaultCode) : (takeFault c s).Inv :=
  inv_of_keepsRegisters h rfl h.frames (.raised rfl) (by simp)

theorem returns_inv {s : State} (h : s.Inv) (r : Reply) : (returns r s).Inv :=
  inv_of_keepsRegisters h rfl h.frames (.same rfl) fun hb => ⟨hb, rfl⟩

/-- A skip of the current packet: the log gets its cause, and PKT_IDX advances with it (R251, R253). -/
theorem afterSkip_inv {s : State} (h : s.Inv) (hb : s.busy = true) (hlt : s.work.pktIdx < s.work.pkts.length)
    (e : SkipCause) (q : Nat) : (afterSkip e q s).Inv := by
  obtain ⟨hlive, hrd, hsorted, -, hskips⟩ := h.inCall hb
  exact { h with
    causeCode := e.code_range.2
    skipLog := fun h0 => absurd h0 (Nat.succ_ne_zero _)
    skipCause := fun _ => e.code_ne_zero
    inCall := fun _ => ⟨hlive, hrd, hsorted, hlt, Nat.succ_le_succ hskips⟩ }

/-- A commit of the current packet: OBUF grows within its capacity, and bits 7:5 of FLAGS stay clear (R134). -/
theorem afterCommit_inv {s : State} (h : s.Inv) (hb : s.busy = true) (hlt : s.work.pktIdx < s.work.pkts.length)
    {bs : Bytes} {fl : Byte} (hfl : fl &&& 0xE0 = 0) (hfit : exceedsCap s.config (s.obuf.length + bs.length) = false)
    (cur : Nat) : (afterCommit bs fl cur s).Inv := by
  obtain ⟨hlive, hrd, hsorted, -, hskips⟩ := h.inCall hb
  exact { h with
    flagsReserved := or_reserved h.flagsReserved hfl
    notLive := fun hn => absurd hlive hn
    rdpos := hrd.trans_le (Nat.zero_le _)
    capacity := by simpa [State.obufLen, afterCommit] using hfit
    inCall := fun _ => ⟨hlive, hrd, hsorted, hlt, hskips.trans (Nat.le_succ _)⟩ }

theorem packetEffect_inv {q : Nat} {s t : State} (effect : PacketEffect q s t) (h : s.Inv) (hb : s.busy = true)
    (hlt : s.work.pktIdx < s.work.pkts.length) : t.Inv := by
  cases effect with
  | skipped e => exact afterSkip_inv h hb hlt e q
  | committed bs fl cur reservedClear fits => exact afterCommit_inv h hb hlt reservedClear fits cur
  | overflowed bs fl cur => exact inv_of_keepsRegisters h rfl h.frames (.raised (c := .bufOverflow) rfl) (by simp)

/-- Call end: the read position goes to the start, the buffer stays (R136). -/
theorem callEnd_inv {s : State} (h : s.Inv) : (callEnd s).Inv :=
  { h with
    notLive := fun hn => ⟨(h.notLive hn).1, rfl⟩
    rdpos := Nat.zero_le _
    inCall := fun hb => absurd hb (by simp) }

/-- The snapshot of a canonical Frame is in ascending order (R38, R132). -/
theorem snapshot_sorted {F : Frame} (hF : F.wf) : ((snapshot F).map Prod.fst).Pairwise (· < ·) := by
  simpa [snapshot, distinctPackets, Function.comp_def] using hF

/-- A call starts with an empty live buffer, a clear skip log and its first packet next (R131, R132). -/
theorem beginCall_inv {s : State} (h : s.Inv) {ref : Nat} {F : Frame} (hF : F.wf) : (beginCall ref F s).Inv where
  frames := h.frames
  flagsReserved := by simp
  faultCode := h.faultCode
  causeCode := by simp
  obufState := by simp [bufLive]
  notLive := by simp
  rdpos := by simp
  capacity := exceedsCap_zero s.config
  skipLog := by simp
  skipCause := by simp
  inCall := fun _ => ⟨rfl, rfl, snapshot_sorted hF, Nat.zero_le _, Nat.zero_le _⟩

/-- RELEASE_BUFFER leaves no bytes to read (R139). -/
theorem released_inv {s : State} (h : s.Inv) (hb : s.busy = false) :
    State.Inv { s with obuf := [], rdpos := 0, obufState := bufReleased } :=
  { h with
    obufState := by simp [bufReleased]
    notLive := fun _ => ⟨rfl, rfl⟩
    rdpos := Nat.zero_le _
    capacity := exceedsCap_zero s.config
    inCall := fun hb' => absurd hb' (by simp [hb]) }

/-- On an idle ENGINE the read position may be moved anywhere in a live buffer (R140, R141). -/
theorem rdpos_inv {s : State} (h : s.Inv) (hb : s.busy = false) (hlive : s.obufState = bufLive) {pos : Nat}
    (hpos : pos ≤ s.obufLen) : State.Inv { s with rdpos := pos } :=
  { h with
    notLive := fun hn => absurd hlive hn
    rdpos := hpos
    inCall := fun hb' => absurd hb' (by simp [hb]) }

/-- BUF_READ stops at the end of the buffer (R140). -/
theorem rdpos_readCount_le {s : State} (h : s.Inv) (n : Nat) : s.rdpos + readCount n s ≤ s.obufLen := by
  have := h.rdpos
  unfold readCount
  omega

/-- PACKETIZE writes the Frames and transient registers alone, and keeps the Frames canonical (R116). -/
theorem packetized_inv {s u : State} (h : s.Inv) (hb : s.busy = false) {ref : Nat} (writes : PacketizeWrites ref s u)
    (r : Reply) : (forgetPacketizer (returns r u)).Inv := by
  obtain ⟨hu, -, hwf⟩ := writes
  have hbu : u.busy = false := (congrArg State.busy hu :).trans hb
  refine inv_of_keepsRegisters h ?_ (hwf h.frames) (.same (congrArg State.fault hu :)) (by simp [hbu])
  rw [hu]
  rfl

theorem commandEffect_inv {s t : State} {x : Except DecodeError Instr} (effect : CommandEffect s x t) (h : s.Inv) :
    t.Inv := by
  cases effect with
  | overlapped => exact inv_of_keepsRegisters h rfl h.frames (.raised rfl) fun hb => ⟨hb, rfl⟩
  | refused | noNal | registerRead => exact returns_inv h _
  | illegal | badMtu | readNotLive | seekNotLive | badSeek => exact takeFault_inv h _
  | packetized nal mtu ref F u idle writes => exact packetized_inv h idle writes _
  | callBegun ref F idle supplied => exact beginCall_inv h (h.frames.2 _ (lookupFrame_mem supplied))
  | released idle => exact returns_inv (released_inv h idle) _
  | bytesRead n idle live => exact returns_inv (rdpos_inv h idle live (rdpos_readCount_le h n)) _
  | sought pos idle live inBuffer => exact returns_inv (rdpos_inv h idle live inBuffer) _

/-- A host that stores a canonical Frame keeps the invariant, whether or not it ends the call in flight (R283, R285). -/
theorem hostSetsFrame_inv {s : State} (h : s.Inv) (ref : Nat) {F : Frame} (hF : F.wf) : (hostSetsFrame ref F s).Inv := by
  have hset : (setFrame ref F s).Inv :=
    inv_of_keepsRegisters h rfl (insertFrame_wf ref h.frames hF) (.same rfl) fun hb => ⟨hb, rfl⟩
  rcases hostSetsFrame_cases ref F s with hF | ⟨-, -, hF⟩ <;> rw [hF]
  · exact hset
  · exact inv_of_keepsRegisters hset rfl hset.frames (.raised (c := .overlap) rfl) (by simp)

/-- Settles O8: every case of a step keeps the invariant. A packet step is inside the snapshot, so PKT_IDX stays in range. -/
theorem everyStepKeepsTheInvariant : Obligations.EveryStepKeepsTheInvariant := by
  intro s t h hstep
  cases step_effect hstep with
  | idle => exact h
  | packet q p t busy current effect =>
    exact packetEffect_inv effect h busy (List.getElem?_eq_some_iff.1 current).1
  | callEnd => exact callEnd_inv h
  | command c rest t effect => exact commandEffect_inv effect (inv_withHost h rest)
  | stored ref F rest canonical => exact hostSetsFrame_inv (inv_withHost h rest) ref (canonical h.frames)
  | reset overlap rest => exact resetBlock_inv h.frames

end Sys2Proof.Proofs.Registers

/-! The byte spaces (spec/20_memory.md): what every step of a call keeps of the output and of the snapshot. -/

namespace Sys2Proof.Proofs.ByteSpaces

open Sys2Proof Sys2Proof.Machine Sys2Proof.Proofs.Effects

/-- A byte of OBUF reads as before when OBUF has only grown at its end. -/
theorem readByte_obuf_of_prefix {s t : State} (h : s.obuf <+: t.obuf) {a : Nat} (ha : a < s.obuf.length) :
    readByte t .obuf a = readByte s .obuf a := by
  obtain ⟨added, hadded⟩ := h
  simp only [readByte, ← hadded, List.getElem?_append_left ha]

/-- Bits set in FLAGS stay set when more are added (R24, R134). -/
theorem and_or_self_left (a b : Byte) : a &&& (a ||| b) = a := by
  ext i
  simpa using Or.inl

/-- What a call in flight keeps from `s` to `t`: the bytes of OBUF and the set bits of FLAGS (R25, R53), and, unless `t` is
at the end of the call, the snapshot, through which PKT_IDX only advances (R23, R38). -/
structure CallKeeps (s t : State) : Prop where
  bytes : s.obuf <+: t.obuf
  bits : s.flags &&& t.flags = s.flags
  snapshot : t.busy = true → t.work.pkts = s.work.pkts ∧ s.work.pktIdx ≤ t.work.pktIdx

/-- OBUF, FLAGS and the transient registers as they were: the call stands where it stood. -/
theorem CallKeeps.same {s t : State} (hobuf : t.obuf = s.obuf) (hflags : t.flags = s.flags) (hwork : t.work = s.work) :
    CallKeeps s t where
  bytes := by rw [hobuf]
  bits := by rw [hflags, BitVec.and_self]
  snapshot _ := by rw [hwork]; exact ⟨rfl, le_rfl⟩

/-- A call that ends leaves OBUF and FLAGS as they were; its snapshot holds no value (R39, R136, R257). -/
theorem CallKeeps.ended {s t : State} (hobuf : t.obuf = s.obuf) (hflags : t.flags = s.flags) (hidle : t.busy = false) :
    CallKeeps s t where
  bytes := by rw [hobuf]
  bits := by rw [hflags, BitVec.and_self]
  snapshot hb := absurd hb (Bool.eq_false_iff.1 hidle)

/-- Taking an entry off the host's program is no part of the call (log 4). -/
theorem CallKeeps.of_withHost {s t : State} {rest : List HostItem} (h : CallKeeps { s with host := rest } t) :
    CallKeeps s t :=
  ⟨h.bytes, h.bits, h.snapshot⟩

/-- A packet appends to OBUF and sets bits of FLAGS, or leaves both; PKT_IDX passes it by unless the call ends (R23, R133). -/
theorem packetEffect_callKeeps {q : Nat} {s t : State} (h : PacketEffect q s t) : CallKeeps s t := by
  cases h with
  | skipped e => exact ⟨List.prefix_rfl, BitVec.and_self, fun _ => ⟨rfl, Nat.le_succ _⟩⟩
  | committed bs fl cur =>
    exact ⟨List.prefix_append s.obuf bs, and_or_self_left s.flags fl, fun _ => ⟨rfl, Nat.le_succ _⟩⟩
  | overflowed bs fl cur => exact .ended rfl rfl rfl

/-- A command issued during a call gets no further than its fault (R258, R284). -/
theorem commandEffect_callKeeps {s t : State} {x : Except DecodeError Instr} (h : CommandEffect s x t)
    (hb : s.busy = true) : CallKeeps s t := by
  cases h with
  | overlapped => exact .same rfl rfl rfl
  | _ => exact absurd hb (Bool.eq_false_iff.1 ‹s.busy = false›)

/-- A host that stores a Frame leaves the call as it stands, or ends it (R285). -/
theorem hostSetsFrame_callKeeps (ref : Nat) (F : Frame) (s : State) : CallKeeps s (hostSetsFrame ref F s) := by
  rcases hostSetsFrame_cases ref F s with h | ⟨-, -, h⟩ <;> rw [h]
  · exact .same rfl rfl rfl
  · exact .ended rfl rfl rfl

theorem step_callKeeps {s t : State} (hb : s.busy = true) (h : step s = .next t) : CallKeeps s t := by
  cases step_effect h with
  | idle => exact .same rfl rfl rfl
  | packet q p t busy current effect => exact packetEffect_callKeeps effect
  | callEnd => exact .ended rfl rfl rfl
  | command c rest t effect => exact .of_withHost (commandEffect_callKeeps effect hb)
  | stored ref F rest => exact .of_withHost (hostSetsFrame_callKeeps ref F { s with host := rest })
  | reset overlap rest idle => exact absurd hb (Bool.eq_false_iff.1 idle)

/-- Settles O38: what a step of a call keeps; that every byte of OBUF reads as before follows from the prefix. -/
theorem bufferOnlyGrowsDuringACall : Obligations.BufferOnlyGrowsDuringACall := by
  intro s t hb h
  obtain ⟨hbytes, hbits, hsnapshot⟩ := step_callKeeps hb h
  exact ⟨hbytes, hbits, fun a ha => readByte_obuf_of_prefix hbytes ha, hsnapshot⟩

end Sys2Proof.Proofs.ByteSpaces

/-! The encodings (spec/30_encoding.md): decoding gives back what was encoded, and what is no encoding faults. -/

namespace Sys2Proof.Proofs.Encoding

open Sys2Proof Sys2Proof.Machine Sys2Proof.Proofs.Scope Sys2Proof.Proofs.Registers

/-! ## Decoding an encoding (R71, R86, R92) -/

/-- Settles O1: every packet-type row is the row that the dispatch map gives its type, and a command's record carries each of
its operands. -/
theorem decodeOfEncodeIsTheInstruction : Obligations.DecodeOfEncodeIsTheInstruction := by
  intro i hwf
  cases i with
  | packetize | depacketize | releaseBuffer | bufRead | bufSeek | readReg => rfl
  | reservedT0 q f nri body | reservedT30 q f nri body | reservedT31 q f nri body
  | singleNalT1Slice q f nri body | singleNalT2 q f nri body | singleNalT3 q f nri body | singleNalT4 q f nri body
  | singleNalT5Idr q f nri body | singleNalT6Sei q f nri body | singleNalT7Sps q f nri body
  | singleNalT8Pps q f nri body | singleNalT9 q f nri body | singleNalT10 q f nri body | singleNalT11 q f nri body
  | singleNalT12 q f nri body | singleNalT13 q f nri body | singleNalT14 q f nri body | singleNalT15 q f nri body
  | singleNalT16 q f nri body | singleNalT17 q f nri body | singleNalT18 q f nri body | singleNalT19 q f nri body
  | singleNalT20 q f nri body | singleNalT21 q f nri body | singleNalT22 q f nri body | singleNalT23 q f nri body
  | stapA q f nri body | stapB q f nri body | mtap16 q f nri body | mtap24 q f nri body
  | fuA q f nri body | fuB q f nri body =>
    exact decode_encodePacket _ q f nri body hwf

/-! ## Illegal command codes (R93) -/

/-- The codes that no row of the command table has (R93). -/
theorem decode_illegalCode {c : HostCmd} (h : c.code.toNat = 0 ∨ 7 ≤ c.code.toNat) :
    decode (.command c) = .error (.illegalCode c.code) := by
  simp only [decode, decodeCommand]
  split
  case h_7 => rfl
  all_goals omega

theorem runFetched_illegalCode {c : HostCmd} (h : c.code.toNat = 0 ∨ 7 ≤ c.code.toNat) (s : State) :
    runFetched (.command c) s = illegalCommand s := by
  simp only [runFetched, decode_illegalCode h]

/-- An illegal code on a ready machine is recorded in FAULT and does nothing else (R93, R257). -/
theorem illegalCommand_of_ready {s : State} (h : s.ready) :
    illegalCommand s = .next { s with fault := 3, reply := .aborted } := by
  have ⟨_, hidle, hclear⟩ := h
  rw [illegalCommand, issue_ready h, takeFault_of_idle _ hidle, recordFault, if_pos hclear]
  rfl

/-- Settles O45: the code decodes to no row, so the step is the fault of an illegal command. -/
theorem illegalCodeFaults : Obligations.IllegalCodeFaults := by
  intro s o c rest hready hhost hcode
  have ⟨haccepted, hidle, _⟩ := hready
  have hready' : State.ready { s with host := rest } := hready
  refine ⟨.aborted, ?_⟩
  calc step s = runEvent (nextEvent s).1 (nextEvent s).2 := by rw [step_eq_accepted, accepted_of haccepted]
    _ = runFetched (.command c) { s with host := rest } := by rw [nextEvent_idle hidle hhost]; rfl
    _ = illegalCommand { s with host := rest } := runFetched_illegalCode hcode _
    _ = .next { s with host := rest, fault := 3, reply := .aborted } := illegalCommand_of_ready hready'

/-! ## Words of the tables (R72, R86, R92, R93) -/

/-- Settles O3: six of the words are encodings, and the seventh is an illegal code. -/
theorem specWordsDecodeToTheirRows : Obligations.SpecWordsDecodeToTheirRows :=
  ⟨decodeOfEncodeIsTheInstruction (.singleNalT5Idr 9 false 3 [0x88, 0x84]) rfl,
    decodeOfEncodeIsTheInstruction (.stapA 9 false 3 [0x00, 0x00]) rfl,
    decodeOfEncodeIsTheInstruction (.fuB 9 false 3 [0x85, 0x00]) rfl,
    decodeOfEncodeIsTheInstruction (.reservedT30 9 false 0 [0x00, 0x00]) rfl,
    decodeOfEncodeIsTheInstruction (.packetize none none 4) rfl,
    decodeOfEncodeIsTheInstruction (.bufRead 5) rfl,
    decode_illegalCode (.inr (le_refl 7))⟩

end Sys2Proof.Proofs.Encoding

/-! PACKETIZE (spec/40_packetizer.md): the packets it stores in its Frame, that they give back the NAL unit, and what it
leaves alone. -/

namespace Sys2Proof.Proofs.Packetizer

open Sys2Proof Sys2Proof.Machine Sys2Proof.Machine.Claim Sys2Proof.Proofs.Effects Sys2Proof.Proofs.Registers

/-! ## The command on a ready machine with its Frame supplied (R101 to R103) -/

theorem exec_packetize_of_empty {s : State} {nal : Option Bytes} {ref : Nat} {F : Frame} (hready : s.ready)
    (hF : lookupFrame s.frames ref = some F) (hnal : nal.getD [] = []) (mtu : Option Nat) :
    exec (.packetize nal mtu ref) s = .next (returns (.frame F) s) := by
  change execPacketize nal mtu ref s = _
  rw [execPacketize, issue_ready hready, withFrame_of hF, hnal]

theorem exec_packetize_of_cons {s : State} {ref : Nat} {F : Frame} (hready : s.ready)
    (hF : lookupFrame s.frames ref = some F) (h : Byte) (body : Bytes) (mtu : Option Nat) :
    exec (.packetize (some (h :: body)) mtu ref) s =
      if mtu.getD s.config.mtuDefault = 0 then .next (takeFault .badMtu s)
      else endPacketize ref (packetizePath (h :: body) h (mtu.getD s.config.mtuDefault) ref s) := by
  change execPacketize (some (h :: body)) mtu ref s = _
  rw [execPacketize, issue_ready hready, withFrame_of hF]
  rfl

/-- Settles O22: the check for an empty NAL does not look at the MTU. -/
theorem emptyNalIsANoOp : Obligations.EmptyNalIsANoOp := by
  intro s nal mtu ref F hready hF hnal
  have hempty : nal.getD [] = [] := by
    obtain rfl | rfl := hnal <;> rfl
  exact exec_packetize_of_empty hready hF hempty mtu

/-- Settles O23: on a ready machine the fault writes FAULT and the reply alone. -/
theorem zeroMtuIsAFault : Obligations.ZeroMtuIsAFault := by
  intro s h body mtu ref F hready hF hmtu
  have ⟨_, hidle, hclear⟩ := hready
  refine ⟨.aborted, ?_⟩
  rw [exec_packetize_of_cons hready hF, if_pos hmtu, takeFault_of_idle _ hidle, recordFault, if_pos hclear]
  rfl

/-! ## Storing and adding to a Frame -/

theorem insertFrame_insertFrame (ref : Nat) (F G : Frame) (m : List (Nat × Frame)) :
    insertFrame ref G (insertFrame ref F m) = insertFrame ref G m := by
  induction m with
  | nil => simp [insertFrame]
  | cons e rest ih =>
    obtain ⟨r, K⟩ := e
    rcases lt_trichotomy ref r with hlt | rfl | hgt
    · simp [insertFrame, hlt]
    · simp [insertFrame]
    · simp [insertFrame, hgt.not_gt, hgt.ne', ih]

/-- The packet numbered `highest + 1` raises `highest` by 1, whatever the keys of the Frame are (R36). -/
theorem addPacket_next {F : Frame} {P : Packet} (hP : P.seq = F.highest + 1) :
    addPacket F P = { F with pkts := insertPacket F.dupKeep P F.pkts, highest := F.highest + 1 } := by
  simp [addPacket, hP]

/-- Where no key is above `highest`, the packet numbered `highest + 1` goes to the end (R36). -/
theorem addPacket_next_append {F : Frame} {P : Packet} (hF : keysBelowHighest F) (hP : P.seq = F.highest + 1) :
    addPacket F P = { F with pkts := F.pkts ++ [P], highest := F.highest + 1 } := by
  have hnew : ∀ Q ∈ F.pkts, Q.seq < P.seq := fun Q hQ => hP ▸ Nat.lt_succ_of_le (hF Q hQ)
  rw [addPacket_next hP, insertPacket_append _ _ _ hnew]

/-! ## How many fragments there are (R12, R105) -/

/-- The offset of fragment `k` is inside the NAL exactly for the `ceil(len / mtu)` first `k`. -/
theorem lt_ceilDiv_iff {m : Nat} (hm : 0 < m) (len k : Nat) : k < ceilDiv len m ↔ k * m < len := by
  have hle : len ⌈/⌉ m ≤ k ↔ len ≤ m * k := ceilDiv_le_iff_le_mul hm
  rw [Nat.ceilDiv_eq_add_pred_div] at hle
  rw [ceilDiv, ← not_le, hle, not_le, mul_comm]

theorem ceilDiv_le_self {m : Nat} (hm : 0 < m) (len : Nat) : ceilDiv len m ≤ len := by
  by_contra hlt
  have hoff := (lt_ceilDiv_iff hm len len).1 (not_le.1 hlt)
  have hle := Nat.le_mul_of_pos_right len hm
  omega

theorem ceilDiv_pos {m len : Nat} (hm : 0 < m) (hlen : 0 < len) : 0 < ceilDiv len m := by
  rw [lt_ceilDiv_iff hm]
  simpa using hlen

/-- The fragments cover the NAL. -/
theorem le_ceilDiv_mul {m : Nat} (hm : 0 < m) (len : Nat) : len ≤ ceilDiv len m * m :=
  not_lt.1 fun hlt => lt_irrefl _ ((lt_ceilDiv_iff hm len _).2 hlt)

/-! ## The fragments, one by one -/

section Fragments

variable (F : Frame) (nal : Bytes) (h : Byte) (m : Nat)

/-- The payload of fragment `k`: the FU indicator, the FU header, the data (R106 to R108). -/
def payloadAt (k : Nat) : Bytes :=
  [fuIndicator h, fuHeader (decide (k = 0)) (decide (nal.length ≤ k * m + m)) h] ++ fragmentData nal m (k * m)

/-- Fragment `k` of the NAL as the packet that goes into the Frame (R109, R110). -/
def fragmentAt (k : Nat) : Packet :=
  emitted F (k + 1) (decide (nal.length ≤ k * m + m)) (payloadAt nal h m k)

/-- The Frame after the first `k` fragments. -/
def frameAfter (k : Nat) : Frame := ((List.range k).map (fragmentAt F nal h m)).foldl addPacket F

theorem fragmentPackets_eq :
    fragmentPackets F nal h m = (List.range (ceilDiv nal.length m)).map (fragmentAt F nal h m) := by
  simp [fragmentPackets, fragmentAt, payloadAt, fuIndicator, fuHeader, topBits, typeBits, fragmentData, slice]

theorem fragmentAt_seq (k : Nat) : (fragmentAt F nal h m k).seq = F.highest + k + 1 := rfl

theorem frameAfter_succ (k : Nat) :
    frameAfter F nal h m (k + 1) = addPacket (frameAfter F nal h m k) (fragmentAt F nal h m k) := by
  simp [frameAfter, List.range_succ]

theorem frameAfter_ceilDiv :
    frameAfter F nal h m (ceilDiv nal.length m) = (fragmentPackets F nal h m).foldl addPacket F := by
  rw [frameAfter, fragmentPackets_eq]

/-- What `Emit` reads of the Frame: the numbers go up by 1, the other two fields stay. -/
theorem frameAfter_fields (k : Nat) :
    (frameAfter F nal h m k).highest = F.highest + k ∧ (frameAfter F nal h m k).ssrc = F.ssrc ∧
      (frameAfter F nal h m k).ptb = F.ptb := by
  induction k with
  | zero => exact ⟨rfl, rfl, rfl⟩
  | succ k ih =>
    obtain ⟨hhighest, hssrc, hptb⟩ := ih
    rw [frameAfter_succ]
    rw [addPacket_next (by rw [fragmentAt_seq, hhighest]), hhighest]
    exact ⟨rfl, hssrc, hptb⟩

/-- `Emit` of the payload of fragment `k` on the Frame after `k` fragments (R110). -/
theorem emitTo_frameAfter (k : Nat) :
    emitTo (frameAfter F nal h m k) (payloadAt nal h m k) (decide (nal.length ≤ k * m + m)) =
      frameAfter F nal h m (k + 1) := by
  obtain ⟨hhighest, hssrc, hptb⟩ := frameAfter_fields F nal h m k
  rw [frameAfter_succ, emitTo, emittedPacket, hhighest, hssrc, hptb]
  rfl

/-- Without a key above `highest` every fragment goes to the end of the Frame. -/
theorem frameAfter_append (hF : keysBelowHighest F) (k : Nat) :
    frameAfter F nal h m k =
      { F with pkts := F.pkts ++ (List.range k).map (fragmentAt F nal h m), highest := F.highest + k } := by
  induction k with
  | zero => simp [frameAfter]
  | succ k ih =>
    have hkeys : keysBelowHighest (frameAfter F nal h m k) := by
      rw [ih]
      intro P hP
      rcases List.mem_append.1 hP with hold | hnew
      · exact Nat.le_add_right_of_le (hF P hold)
      · obtain ⟨j, hj, rfl⟩ := List.mem_map.1 hnew
        exact Nat.add_le_add_left (List.mem_range.1 hj) F.highest
    have hseq : (fragmentAt F nal h m k).seq = (frameAfter F nal h m k).highest + 1 := by
      rw [fragmentAt_seq, ih]
    rw [frameAfter_succ, addPacket_next_append hkeys hseq, ih]
    simp [List.range_succ, Nat.add_assoc]

end Fragments

/-! ## The loop of FragmentPath (R105) -/

/-- The registers of PACKETIZE before the turn of fragment `k` (R34). -/
def atFragment (nal : Bytes) (h : Byte) (m k : Nat) (w : Work) : Prop :=
  w.len = nal.length ∧ w.hdr = h ∧ w.off = k * m

/-- `s` with another Frame under `ref` and other transient registers. -/
def storing (ref : Nat) (G : Frame) (w : Work) (s : State) : State :=
  { s with frames := insertFrame ref G s.frames, work := w }

theorem storing_storing (ref : Nat) (G G' : Frame) (w w' : Work) (s : State) :
    storing ref G' w' (storing ref G w s) = storing ref G' w' s := by
  simp [storing, insertFrame_insertFrame]

section Loop

variable {nal : Bytes} {h : Byte} {m k : Nat} {s : State}

theorem fragmentPayload_eq (hm : 0 < m) (hw : atFragment nal h m k s.work) :
    fragmentPayload nal m s.work = payloadAt nal h m k := by
  obtain ⟨hlen, hhdr, hoff⟩ := hw
  have hfirst : (k * m == 0) = decide (k = 0) := by
    rw [Bool.eq_iff_iff]
    simp [hm.ne']
  rw [fragmentPayload, hlen, hhdr, hoff, hfirst, payloadAt]

/-- A loop whose offset is past the NAL does nothing. -/
theorem fragmentLoop_done (hm : 0 < m) (hw : atFragment nal h m k s.work) (hk : ceilDiv nal.length m ≤ k)
    (ref turns : Nat) : fragmentLoop nal m ref turns s = s := by
  obtain ⟨hlen, -, hoff⟩ := hw
  have hout : ¬ s.work.off < s.work.len := by
    rw [hlen, hoff, ← lt_ceilDiv_iff hm]
    exact not_lt.2 hk
  cases turns with
  | zero => rfl
  | succ turns => rw [fragmentLoop, if_neg hout]

/-- A turn stores the next fragment and advances the offset. -/
theorem fragmentLoop_turn (hm : 0 < m) (hw : atFragment nal h m k s.work) (hk : k < ceilDiv nal.length m)
    {F : Frame} {ref : Nat} (hG : lookupFrame s.frames ref = some (frameAfter F nal h m k)) (turns : Nat) :
    ∃ w, atFragment nal h m (k + 1) w ∧
      fragmentLoop nal m ref (turns + 1) s =
        fragmentLoop nal m ref turns (storing ref (frameAfter F nal h m (k + 1)) w s) := by
  have ⟨hlen, hhdr, hoff⟩ := hw
  have hin : s.work.off < s.work.len := by
    rw [hlen, hoff, ← lt_ceilDiv_iff hm]
    exact hk
  have hemit : emit ref (fragmentPayload nal m s.work) (decide (s.work.len ≤ s.work.off + m)) s =
      setFrame ref (frameAfter F nal h m (k + 1)) s := by
    rw [emit_of hG, fragmentPayload_eq hm hw, hlen, hoff, emitTo_frameAfter]
  refine ⟨{ s.work with off := s.work.off + m }, ⟨hlen, hhdr, ?_⟩, ?_⟩
  · rw [hoff, Nat.succ_mul]
  · rw [fragmentLoop, if_pos hin, hemit]
    rfl

/-- With enough turns the loop stores every fragment that is left. -/
theorem fragmentLoop_stores (hm : 0 < m) {F : Frame} {ref turns : Nat} (hw : atFragment nal h m k s.work)
    (hk : k < ceilDiv nal.length m) (hturns : ceilDiv nal.length m ≤ k + turns)
    (hG : lookupFrame s.frames ref = some (frameAfter F nal h m k)) :
    ∃ w, fragmentLoop nal m ref turns s = storing ref (frameAfter F nal h m (ceilDiv nal.length m)) w s := by
  induction turns generalizing k s with
  | zero => omega
  | succ turns ih =>
    obtain ⟨w, hw', hturn⟩ := fragmentLoop_turn hm hw hk hG turns
    rw [hturn]
    rcases Nat.lt_or_ge (k + 1) (ceilDiv nal.length m) with hmore | hlast
    · obtain ⟨w', hrest⟩ := ih (s := storing ref _ w s) hw' hmore (by omega) (lookupFrame_insertFrame_self _ _ _)
      exact ⟨w', by rw [hrest, storing_storing]⟩
    · have hcount : ceilDiv nal.length m = k + 1 := by omega
      exact ⟨w, by rw [fragmentLoop_done (s := storing ref _ w s) hm hw' hlast, hcount]⟩

end Loop

/-! ## The two paths (R103) -/

/-- The packets of a NAL: itself, below the MTU, or its fragments. -/
def packetsOf (F : Frame) (nal : Bytes) (h : Byte) (m : Nat) : List Packet :=
  if nal.length < m then [emitted F 1 true nal] else fragmentPackets F nal h m

theorem packetizePath_stores {s : State} {ref m : Nat} {F : Frame} {nal : Bytes} (h : Byte)
    (hF : lookupFrame s.frames ref = some F) (hm : 0 < m) (hnal : 0 < nal.length) :
    ∃ w, packetizePath nal h m ref s = storing ref ((packetsOf F nal h m).foldl addPacket F) w s := by
  unfold packetizePath packetsOf
  split
  case isTrue => exact ⟨_, emit_of hF⟩
  case isFalse =>
    rw [← frameAfter_ceilDiv]
    exact fragmentLoop_stores (k := 0)
      (s := { s with work := { s.work with len := nal.length, hdr := h, off := 0 } }) hm
      ⟨rfl, rfl, (Nat.zero_mul m).symm⟩ (ceilDiv_pos hm hnal) (by simpa using ceilDiv_le_self hm nal.length) hF

/-- PACKETIZE returns the Frame that its path stored. -/
theorem endPacketize_storing (ref : Nat) (G : Frame) (w : Work) (s : State) :
    ∃ w' k, endPacketize ref (storing ref G w s) =
      .next { s with frames := insertFrame ref G s.frames, reply := .frame G, work := w', freeIdx := k } := by
  have hG : lookupFrame (storing ref G w s).frames ref = some G := lookupFrame_insertFrame_self _ _ _
  rw [endPacketize, withFrame_of hG]
  exact ⟨_, _, rfl⟩

/-- Settles O50: the path stores the packets one after the other, and PACKETIZE returns the Frame. -/
theorem packetizeStoresItsPacketsInAnyFrame : Obligations.PacketizeStoresItsPacketsInAnyFrame := by
  rintro s h body mtu ref F m hready hF rfl hm
  obtain ⟨w, hpath⟩ := packetizePath_stores (nal := h :: body) h hF hm (Nat.succ_pos _)
  rw [exec_packetize_of_cons hready hF, if_neg hm.ne', hpath]
  exact endPacketize_storing ref _ w s

/-- Settles O24: the one packet is numbered `highest + 1`. -/
theorem shortNalIsOnePacketVerbatim : Obligations.ShortNalIsOnePacketVerbatim := by
  intro s nal mtu ref F hready hF hnal hshort
  obtain ⟨h, body, rfl⟩ := List.exists_cons_of_ne_nil hnal
  have hadd : [emitted F 1 true (h :: body)].foldl addPacket F = _ := addPacket_next rfl
  have hany := packetizeStoresItsPacketsInAnyFrame s h body mtu ref F _ hready hF rfl (Nat.zero_lt_of_lt hshort)
  simp only [if_pos hshort, hadd] at hany
  exact hany

/-- The fragments of a NAL, added to a Frame with no key above `highest`. -/
theorem foldl_fragmentPackets {F : Frame} (hF : keysBelowHighest F) (nal : Bytes) (h : Byte) (m : Nat) :
    (fragmentPackets F nal h m).foldl addPacket F =
      { F with pkts := F.pkts ++ fragmentPackets F nal h m, highest := F.highest + ceilDiv nal.length m } := by
  rw [← frameAfter_ceilDiv, frameAfter_append F nal h m hF, ← fragmentPackets_eq]

/-- Settles O25: each fragment's number is a new key, so it is appended. -/
theorem longNalBecomesItsFuAFragments : Obligations.LongNalBecomesItsFuAFragments := by
  intro s h body mtu ref F m hready hF hkeys hmtu hm hlong
  have hany := packetizeStoresItsPacketsInAnyFrame s h body mtu ref F m hready hF hmtu hm
  simp only [if_neg (not_lt.2 hlong), foldl_fragmentPackets hkeys] at hany
  exact hany

/-! ## The fragments give back the NAL (R113, R114) -/

theorem fragmentData_length (nal : Bytes) (m o : Nat) :
    (fragmentData nal m o).length = min (o + m) nal.length - max o 1 := by
  simp [fragmentData, slice]

theorem payloadAt_length (nal : Bytes) (h : Byte) (m k : Nat) :
    (payloadAt nal h m k).length = min (k * m + m) nal.length - max (k * m) 1 + 2 := by
  simp [payloadAt, fragmentData_length]

theorem payloadAt_length_bounds (nal : Bytes) (h : Byte) (m k : Nat) :
    2 ≤ (payloadAt nal h m k).length ∧ (payloadAt nal h m k).length ≤ m + 2 := by
  rw [payloadAt_length]
  omega

/-- The Start fragment's payload is one byte shorter: the NAL header is not in its data. -/
theorem payloadAt_zero_length_le {m : Nat} (hm : 0 < m) (nal : Bytes) (h : Byte) :
    (payloadAt nal h m 0).length ≤ m + 1 := by
  rw [payloadAt_length]
  omega

/-- The NAL header from the bytes that a Start fragment carries (R84, R106, R107). -/
theorem header_of_fuIndicator_fuHeader (h : Byte) (start last : Bool) :
    (fuIndicator h &&& 0xE0) ||| (fuHeader start last h &&& 0x1F) = h := by
  revert h start last
  decide

/-- Cutting at `a` what follows the first byte. -/
theorem drop_one_take_append (l : Bytes) (a : Nat) : (l.take a).drop 1 ++ l.drop (max a 1) = l.drop 1 := by
  have hmax : max a 1 = 1 + (a - 1) := by omega
  rw [hmax, ← List.drop_drop, List.drop_take, List.take_append_drop]

/-- The data of the first `k` fragments is the NAL up to fragment `k`, without its header (R108). -/
theorem flatMap_fragmentData (nal : Bytes) (m k : Nat) :
    (List.range k).flatMap (fun j => fragmentData nal m (j * m)) = (nal.take (k * m)).drop 1 := by
  induction k with
  | zero => simp
  | succ k ih =>
    have hcut : nal.take (k * m) = (nal.take (k * m + m)).take (k * m) := by
      rw [List.take_take, min_eq_left (Nat.le_add_right _ _)]
    have hdata : fragmentData nal m (k * m) = (nal.take (k * m + m)).drop (max (k * m) 1) := by
      rw [fragmentData, slice, ← List.take_eq_take_min]
    rw [List.range_succ, List.flatMap_append, ih, List.flatMap_singleton, hdata, hcut, drop_one_take_append,
      Nat.succ_mul]

/-- All the data regions together are the NAL without its header. -/
theorem flatMap_fragmentPackets {m : Nat} (hm : 0 < m) (F : Frame) (nal : Bytes) (h : Byte) :
    (fragmentPackets F nal h m).flatMap (fun P => P.payload.drop 2) = nal.drop 1 := by
  calc (fragmentPackets F nal h m).flatMap (fun P => P.payload.drop 2)
      = (List.range (ceilDiv nal.length m)).flatMap (fun k => fragmentData nal m (k * m)) := by
        rw [fragmentPackets_eq, List.flatMap_map]
        rfl
    _ = (nal.take (ceilDiv nal.length m * m)).drop 1 := flatMap_fragmentData nal m _
    _ = nal.drop 1 := by rw [List.take_of_length_le (le_ceilDiv_mul hm nal.length)]

/-- There is a Start fragment. -/
theorem fragmentPackets_cons {m : Nat} {nal : Bytes} (hm : 0 < m) (hnal : 0 < nal.length) (F : Frame) (h : Byte) :
    ∃ rest, fragmentPackets F nal h m = fragmentAt F nal h m 0 :: rest := by
  obtain ⟨n, hn⟩ := Nat.exists_eq_succ_of_ne_zero (ceilDiv_pos hm hnal).ne'
  rw [fragmentPackets_eq, hn, List.range_succ_eq_map]
  exact ⟨_, rfl⟩

/-- Settles O26: the appended packets are the fragments, or the one packet of a shorter NAL. -/
theorem fragmentsRebuildTheNal : Obligations.FragmentsRebuildTheNal := by
  refine ⟨?fragmented, ?single⟩
  case fragmented =>
    intro s t h body mtu ref F m hready hF hkeys hmtu hm hlong hexec
    obtain ⟨w, k, hnext⟩ := longNalBecomesItsFuAFragments s h body mtu ref F m hready hF hkeys hmtu hm hlong
    cases hexec.symm.trans hnext
    obtain ⟨rest, hcons⟩ := fragmentPackets_cons (nal := h :: body) hm (Nat.succ_pos _) F h
    refine ⟨_, _, rest, lookupFrame_insertFrame_self _ _ _, by rw [← hcons], ?bounds,
      payloadAt_zero_length_le hm (h :: body) h, ⟨_, _, _, rfl, header_of_fuIndicator_fuHeader h _ _⟩, ?data⟩
    case bounds =>
      rw [← hcons, fragmentPackets_eq]
      intro P hP
      obtain ⟨j, -, rfl⟩ := List.mem_map.1 hP
      exact payloadAt_length_bounds (h :: body) h m j
    case data => rw [← hcons, flatMap_fragmentPackets hm, List.drop_one, List.tail_cons]
  case single =>
    intro s t nal mtu ref F hready hF hkeys hnal hshort hexec
    obtain ⟨w, k, hnext⟩ := shortNalIsOnePacketVerbatim s nal mtu ref F hready hF hnal hshort
    cases hexec.symm.trans hnext
    have hnew : ∀ Q ∈ F.pkts, Q.seq < (emitted F 1 true nal).seq := fun Q hQ => Nat.lt_succ_of_le (hkeys Q hQ)
    exact ⟨_, emitted F 1 true nal, lookupFrame_insertFrame_self _ _ _, insertPacket_append _ _ _ hnew,
      Nat.le_pred_of_lt hshort⟩

/-! ## What PACKETIZE leaves alone (R116) -/

/-- `t` is `s` but for FAULT, the Frames, the transient registers and the reply: all that PACKETIZE writes. -/
def PacketizeOnlyWrites (s t : State) : Prop :=
  ∃ fault frames work reply freeIdx, t =
    { s with fault := fault, frames := frames, work := work, reply := reply, freeIdx := freeIdx }

theorem commandEffect_packetizeOnlyWrites {s t : State} {nal : Option Bytes} {mtu : Option Nat} {ref : Nat}
    (h : CommandEffect s (.ok (.packetize nal mtu ref)) t) : PacketizeOnlyWrites s t := by
  cases h with
  | overlapped | refused | noNal => exact ⟨_, _, _, _, _, rfl⟩
  | badMtu _ _ _ idle =>
    rw [takeFault_of_idle _ idle]
    exact ⟨_, _, _, _, _, rfl⟩
  | packetized _ _ _ F u idle writes =>
    rw [writes.1]
    exact ⟨_, _, _, _, _, rfl⟩

theorem commandEffect_otherFrames {s t : State} {nal : Option Bytes} {mtu : Option Nat} {ref : Nat}
    (h : CommandEffect s (.ok (.packetize nal mtu ref)) t) :
    ∀ r, r ≠ ref → lookupFrame t.frames r = lookupFrame s.frames r := by
  cases h with
  | overlapped | refused | noNal | badMtu => exact fun _ _ => rfl
  | packetized _ _ _ F u idle writes => exact writes.2.1

/-- The faults of PACKETIZE: BAD_MTU on an idle ENGINE, OVERLAP in a call (R102, R258). -/
theorem commandEffect_packetizeFault {s t : State} {nal : Option Bytes} {mtu : Option Nat} {ref : Nat}
    (h : CommandEffect s (.ok (.packetize nal mtu ref)) t) :
    t.fault = s.fault ∨ (s.fault = 0 ∧ s.busy = false ∧ t.fault = 2) ∨
      (s.fault = 0 ∧ s.busy = true ∧ t.fault = 4) := by
  cases h with
  | overlapped _ busy =>
    obtain ⟨hclear, hcode⟩ | ⟨-, hkept⟩ := recordFault_fault_cases .overlap s
    · exact .inr (.inr ⟨hclear, busy, hcode⟩)
    · exact .inl hkept
  | badMtu _ _ _ idle =>
    obtain ⟨hclear, hcode⟩ | ⟨-, hkept⟩ := recordFault_fault_cases .badMtu s
    · exact .inr (.inl ⟨hclear, idle, hcode⟩)
    · exact .inl hkept
  | refused | noNal => exact .inl rfl
  | packetized _ _ _ F u idle writes => exact .inl (congrArg State.fault writes.1 :)

/-- Settles O27: read off the cases of a command. -/
theorem packetizeTouchesOnlyItsFrame : Obligations.PacketizeTouchesOnlyItsFrame := by
  intro s t nal mtu ref h
  have heffect : CommandEffect s (.ok (.packetize nal mtu ref)) t := execPacketize_effect h
  have hother := commandEffect_otherFrames heffect
  have hfault := commandEffect_packetizeFault heffect
  obtain ⟨fault, frames, work, reply, freeIdx, rfl⟩ := commandEffect_packetizeOnlyWrites heffect
  exact ⟨rfl, rfl, rfl, rfl, rfl, rfl, rfl, rfl, rfl, rfl, hother, hfault⟩

end Sys2Proof.Proofs.Packetizer

/-! DEPACKETIZE and the output buffer (spec/41_depacketizer.md): the host's access to the buffer and the registers, what
one packet does, and what a whole call leaves. -/

namespace Sys2Proof.Proofs.Depacketizer

open Sys2Proof Sys2Proof.Machine Sys2Proof.Machine.Claim
open Sys2Proof.Proofs.Scope Sys2Proof.Proofs.Effects Sys2Proof.Proofs.Registers

/-! ## Commands on an idle ENGINE (R257, R258) -/

/-- READ_REG and RELEASE_BUFFER go on to their own meaning whatever FAULT is (R257). -/
theorem issue_exempt {s : State} (hd : s.config.donSort = false) (hb : s.busy = false) (k : State → Out) :
    issue true s k = k s := by
  simp [issue, accepted_of hd, hb]

/-- On a ready machine a fault writes FAULT and the reply alone (R257). -/
theorem takeFault_of_ready {s : State} (h : s.ready) (c : FaultCode) :
    takeFault c s = { s with fault := c.code, reply := .aborted } := by
  obtain ⟨-, hidle, hclear⟩ := h
  rw [takeFault_of_idle _ hidle, recordFault, if_pos hclear]

/-- Settles O40: the command's own meaning, reached past the check of FAULT. -/
theorem releaseEmptiesTheBuffer : Obligations.ReleaseEmptiesTheBuffer := by
  intro s hd hb
  change execReleaseBuffer s = _
  rw [execReleaseBuffer, issue_exempt hd hb]
  rfl

/-! ## BUF_READ and BUF_SEEK (R140, R141) -/

/-- BUF_READ on a ready machine. -/
theorem exec_bufRead_of_ready {s : State} (h : s.ready) (n : Nat) :
    exec (.bufRead n) s =
      if s.obufState ≠ bufLive then .next (takeFault .bufNotLive s)
      else .next (returns (.bytes (slice s.obuf s.rdpos (s.rdpos + readCount n s)))
        { s with rdpos := s.rdpos + readCount n s }) := by
  change execBufRead n s = _
  rw [execBufRead, issue_ready h]

/-- BUF_SEEK on a ready machine. -/
theorem exec_bufSeek_of_ready {s : State} (h : s.ready) (pos : Nat) :
    exec (.bufSeek pos) s =
      if s.obufState ≠ bufLive then .next (takeFault .bufNotLive s)
      else if s.obufLen < pos then .next (takeFault .badSeek s)
      else .next (returns .none { s with rdpos := pos }) := by
  change execBufSeek pos s = _
  rw [execBufSeek, issue_ready h]

theorem slice_length (s : Bytes) (a b : Nat) : (slice s a b).length = min b s.length - a := by
  simp [slice]

theorem slice_getElem? (s : Bytes) {a b i : Nat} (h : a + i < b) : (slice s a b)[i]? = s[a + i]? := by
  simp [slice, List.getElem?_take_of_lt h]

/-- BUF_READ returns as many bytes as it counts, even past the end of the buffer, where it counts none. -/
theorem slice_readCount_length (s : State) (n : Nat) :
    (slice s.obuf s.rdpos (s.rdpos + readCount n s)).length = readCount n s := by
  rw [slice_length, readCount, State.obufLen]
  omega

/-- Settles O41: the bytes returned are a slice of OBUF whose length is the count. -/
theorem bufReadReturnsTheNextBytes : Obligations.BufReadReturnsTheNextBytes := by
  refine ⟨fun s n h (hlive : s.obufState = bufLive) => ?live,
    fun s n h (hdead : s.obufState ≠ bufLive) => ⟨.aborted, ?dead⟩⟩
  case live =>
    refine ⟨slice s.obuf s.rdpos (s.rdpos + readCount n s), ?_, slice_readCount_length s n, fun i hi => ?_⟩
    · rw [exec_bufRead_of_ready h, if_neg (not_not.2 hlive), slice_readCount_length]
      rfl
    · rw [slice_readCount_length] at hi
      exact slice_getElem? s.obuf (Nat.add_lt_add_left hi _)
  case dead =>
    rw [exec_bufRead_of_ready h, if_pos hdead, takeFault_of_ready h]
    rfl

/-- Settles O42: the two faults in their order, then the position; at the end of the buffer BUF_READ has nothing left. -/
theorem bufSeekSetsThePosition : Obligations.BufSeekSetsThePosition := by
  intro s pos h
  refine ⟨fun (hdead : s.obufState ≠ bufLive) => ⟨.aborted, ?notLive⟩,
    fun (hlive : s.obufState = bufLive) (hpos : s.obufLen < pos) => ⟨.aborted, ?beyond⟩,
    fun (hlive : s.obufState = bufLive) (hpos : pos ≤ s.obufLen) => ⟨?sought, ?atEnd⟩⟩
  case notLive =>
    rw [exec_bufSeek_of_ready h, if_pos hdead, takeFault_of_ready h]
    rfl
  case beyond =>
    rw [exec_bufSeek_of_ready h, if_neg (not_not.2 hlive), if_pos hpos, takeFault_of_ready h]
    rfl
  case sought =>
    rw [exec_bufSeek_of_ready h, if_neg (not_not.2 hlive), if_neg (not_lt.2 hpos)]
    rfl
  case atEnd =>
    intro hend n
    obtain ⟨out, hread, hlength, -⟩ :=
      bufReadReturnsTheNextBytes.1 { s with rdpos := pos, reply := .none } n h hlive
    have hout : out = [] := by
      rw [← List.length_eq_zero_iff, hlength, hend, Nat.sub_self, Nat.min_zero]
    rw [hread, hout]
    rfl

/-! ## READ_REG (R32, R142) -/

/-- Appending bit vectors puts the first one above the second. -/
theorem toNat_append_add {m n : Nat} (x : BitVec m) (y : BitVec n) : (x ++ y).toNat = x.toNat * 2 ^ n + y.toNat := by
  rw [BitVec.toNat_append, ← Nat.shiftLeft_add_eq_or_of_lt y.isLt, Nat.shiftLeft_eq]

theorem statusWord_toNat (s : State) :
    (statusWord s).toNat =
      s.obufState.toNat + 4 * s.busy.toNat + 256 * s.fault.toNat + 65536 * s.lastSkipCause.toNat := by
  simp only [statusWord, toNat_append_add, BitVec.toNat_ofBool, BitVec.toNat_ofNat]
  omega

theorem configWord_toNat (c : Config) :
    (configWord c).toNat = c.strictF.toNat + 2 * c.zeroByte.toNat + 4 * c.donSort.toNat := by
  simp only [configWord, toNat_append_add, BitVec.toNat_ofBool, BitVec.toNat_ofNat]
  omega

/-- The register map of the model is that of R32. -/
theorem regValue_eq_mapped (s : State) : ∀ r : Nat, regValue s r = mapped s r
  | 0 | 2 | 3 | 4 | 5 | 7 => rfl
  | 1 => statusWord_toNat s
  | 6 => configWord_toNat s.config
  | r + 8 => by simp [regValue, mapped]

/-- Settles O43: READ_REG writes the reply alone, with the mapped value. -/
theorem readRegReadsTheRegisterMap : Obligations.ReadRegReadsTheRegisterMap := by
  intro s r hd hb
  change execReadReg r s = _
  rw [execReadReg, issue_exempt hd hb, regValue_eq_mapped]
  rfl

/-! ## Call start and call end (R131, R132, R136) -/

/-- Settles O31: on a ready machine with its Frame supplied the command is its call start. -/
theorem depacketizeStartsAFreshCall : Obligations.DepacketizeStartsAFreshCall := by
  intro s ref F h hF
  change execDepacketize ref s = _
  rw [execDepacketize, issue_ready h, withFrame_of hF]
  rfl

/-- With no overlapping host entry a step of a call is the ENGINE's (R287). -/
theorem step_of_busy {s : State} (hd : s.config.donSort = false) (hb : s.busy = true)
    (hh : ∀ it ∈ s.host.head?, it.overlap = false) : step s = runEvent (engineEvent s.work) s := by
  rw [step_eq_accepted, accepted_of hd, nextEvent_busy hb hh]

/-- Settles O32: past the snapshot the ENGINE's next event is the call end. -/
theorem callEndReturnsTheFlags : Obligations.CallEndReturnsTheFlags := by
  intro s hd hb hh hdone
  have hnone : s.work.pkts[s.work.pktIdx]? = none := List.getElem?_eq_none hdone
  refine ⟨(callEnd s).work, (callEnd s).freeIdx, ?_⟩
  rw [step_of_busy hd hb hh, engineEvent, hnone]
  rfl

/-! ## One packet (R133, R143, R144) -/

/-- A packet-type row encodes to a packet of its type (R86). -/
theorem encode_packetRow : ∀ row ∈ packetRows, ∀ q f nri body,
    encode (row.2 q f nri body) = encodePacket row.1 q f nri body := by
  simp [packetRows, singleNalRows, reservedRows, encode]

/-- A packet-type row runs the transaction of its packet, dispatched on byte 0 (R133, R162). -/
theorem exec_packetRow {row : BitVec 5 × PacketRow} (hrow : row ∈ packetRows) (q : Nat) (f : Bool) (nri : BitVec 2)
    (body : Bytes) (s : State) :
    exec (row.2 q f nri body) s = runPacket dispatchParse q (headerByte f nri row.1 :: body) s :=
  exec_of_encode_packet (encode_packetRow row hrow q f nri body) s

/-- The length check comes first, whatever the rule and the mode are (R160). -/
theorem parsePacket_short (rule : Bytes → State → Except SkipCause State) {p : Bytes} (hp : p.length ≤ 2) (s : State) :
    parsePacket rule p s = .error .short := by
  match p, hp with
  | [], _ | [_], _ | [_, _], _ => rfl

/-- A packet of 2 bytes or fewer is skipped with cause SHORT, whatever the rule is (R144, R160). -/
theorem runPacket_short (rule : Bytes → State → Except SkipCause State) (q : Nat) {p : Bytes} (hp : p.length ≤ 2)
    {s : State} (hd : s.config.donSort = false) : runPacket rule q p s = .next (afterSkip .short q s) := by
  rw [runPacket, accepted_of hd, packetTransaction_skip (parsePacket_short rule hp _)]

theorem skippedAs_afterSkip (e : SkipCause) (q : Nat) (s : State) : skippedAs e.code q s (afterSkip e q s) :=
  ⟨[], 0, rfl⟩

/-- A packet that is not dispatched has 2 bytes or fewer (R160). -/
theorem length_le_two_of_decode_error {q : Nat} {p : Bytes} {e : DecodeError} (h : decode (.packet q p) = .error e) :
    p.length ≤ 2 := by
  match p with
  | [] | [_] | [_, _] => simp
  | b :: c :: d :: rest => cases (decodePacket_cons q b (c :: d :: rest) rfl).symm.trans h

/-- A fetched packet runs its transaction, dispatched on byte 0 or not dispatched at all (R133, R160). -/
theorem runFetched_packet (q : Nat) (p : Bytes) (s : State) :
    runFetched (.packet q p) s = runPacket dispatchParse q p s := by
  cases hx : decode (.packet q p) with
  | ok i => rw [runFetched_of_decode hx, exec_of_encode_packet (encode_of_decode_packet hx)]
  | error e =>
    have hp : p.length ≤ 2 := length_le_two_of_decode_error hx
    cases decode_packet_error hx
    simp only [runFetched, hx, shortPacket, runPacket, packetTransaction_skip (parsePacket_short _ hp _)]

/-- With no overlapping host entry a step of a call runs the current packet (R132, R287). -/
theorem step_of_packet {s : State} {q : Nat} {p : Bytes} (hd : s.config.donSort = false) (hb : s.busy = true)
    (hh : ∀ it ∈ s.host.head?, it.overlap = false) (hp : s.work.pkts[s.work.pktIdx]? = some (q, p)) :
    step s = runPacket dispatchParse q p s := by
  rw [step_of_busy hd hb hh, engineEvent_packet hp, runEvent, runFetched_packet]

/-- Settles O18: an instruction and a fetched packet run one transaction, which begins with the length check. -/
theorem shortPacketsContributeNothing : Obligations.ShortPacketsContributeNothing := by
  refine ⟨fun row hrow q f nri body s hd hbody => ⟨_, ?row, skippedAs_afterSkip .short q s⟩,
    fun s q p hd hb hh hp hlen => ⟨_, ?fetched, skippedAs_afterSkip .short q s⟩⟩
  case row =>
    have hlen : (headerByte f nri row.1 :: body).length ≤ 2 := hbody
    rw [exec_packetRow hrow, runPacket_short _ q hlen hd]
  case fetched => rw [step_of_packet hd hb hh hp, runPacket_short _ q hlen hd]

/-- The capacity check is `fits` (R134, R135). -/
theorem fits_iff {s : State} {n : Nat} : fits s n ↔ exceedsCap s.config (s.obuf.length + n) = false :=
  exceedsCap_eq_false.symm

theorem exceedsCap_of_unbounded {c : Config} (h : c.bufCap = none) (n : Nat) : exceedsCap c n = false := by
  simp [exceedsCap, h]

/-- A fault at commit leaves every field but FAULT, BUSY, the reply and the transient registers (R135, R257). -/
theorem abortedBy_overflow (bs : Bytes) (fl : Byte) (cur : Nat) (s : State) :
    abortedBy 5 s (abortCall .bufOverflow (staged bs fl cur (clearStage s))) :=
  ⟨_, _, rfl⟩

/-- A packet is skipped in every state, contributing nothing, or in every state its contribution is committed where it
fits and is BUF_OVERFLOW where it does not. -/
theorem packetTransaction_contribution {c : Config} (hcap : c.bufCap = none) (p : Bytes) :
    (contribution c p = ([], 0) ∧ ∃ e, ∀ q s, Switches c.strictF c.zeroByte s →
      packetTransaction dispatchParse q p s = afterSkip e q s) ∨
    ((contribution c p).2 &&& 0xE0 = 0 ∧ ∃ g : Nat → Nat, ∀ q s, Switches c.strictF c.zeroByte s →
      packetTransaction dispatchParse q p s =
        if exceedsCap s.config (s.obuf.length + (contribution c p).1.length) then
          abortCall .bufOverflow (staged (contribution c p).1 (contribution c p).2 (g s.work.cur) (clearStage s))
        else afterCommit (contribution c p).1 (contribution c p).2 (g s.work.cur) s) := by
  have halone : Switches c.strictF c.zeroByte (callStart { State.reset with config := c }) := ⟨rfl, rfl⟩
  rcases packetTransaction_cases dispatchParse_stages p c.strictF c.zeroByte with ⟨e, he⟩ | ⟨bs, fl, g, hfl, hg⟩
  · refine .inl ⟨?_, e, he⟩
    simp only [contribution, he 0 _ halone]
    rfl
  · have hc : contribution c p = (bs, fl) := by
      simp [contribution, hg 0 _ halone, exceedsCap_of_unbounded hcap, afterCommit]
    rw [hc]
    exact .inr ⟨hfl, g, hg⟩

/-- Settles O21: the two ways of a transaction, the second by whether the contribution fits. -/
theorem packetsCommitWholeOrRollBackWhole : Obligations.PacketsCommitWholeOrRollBackWhole := by
  intro row hrow q f nri body s t h
  rw [exec_packetRow hrow] at h
  obtain ⟨-, h⟩ := accepted_next h
  cases h
  rcases packetTransaction_contribution (c := { s.config with bufCap := none }) rfl
    (headerByte f nri row.1 :: body) with ⟨hnothing, e, he⟩ | ⟨hfl, g, hg⟩
  · rw [he q s ⟨rfl, rfl⟩]
    exact .inl ⟨e.code, e.code_range.1, e.code_range.2, hnothing, skippedAs_afterSkip e q s⟩
  · rw [hg q s ⟨rfl, rfl⟩]
    split
    · next hover => exact .inr (.inr ⟨fun hfits => by simp [fits_iff.1 hfits] at hover, abortedBy_overflow _ _ _ s⟩)
    · next hfit => exact .inr (.inl ⟨_, fits_iff.2 (by simpa using hfit), hfl, [], 0, rfl⟩)

/-- `s` under a configuration without a capacity bound. -/
def unbounded (s : State) : State := { s with config := { s.config with bufCap := none } }

theorem committed_obuf {bs : Bytes} {fl : Byte} {cur : Nat} {s t : State} (h : committed bs fl cur s t) :
    t.obuf = s.obuf ++ bs := by
  obtain ⟨_, _, rfl⟩ := h
  rfl

theorem committed_skipCount {bs : Bytes} {fl : Byte} {cur : Nat} {s t : State} (h : committed bs fl cur s t) :
    t.skipCount = s.skipCount := by
  obtain ⟨_, _, rfl⟩ := h
  rfl

/-- The same bytes are staged with and without a bound: what only an unbounded OBUF takes is BUF_OVERFLOW (R135). -/
theorem packetTransaction_overflows {bs : Bytes} {fl : Byte} {cur q : Nat} {p : Bytes} {s : State}
    (h : committed bs fl cur (unbounded s) (packetTransaction dispatchParse q p (unbounded s)))
    (hnofit : ¬ fits s bs.length) : abortedBy 5 s (packetTransaction dispatchParse q p s) := by
  have hswitches : Switches s.config.strictF s.config.zeroByte (unbounded s) := ⟨rfl, rfl⟩
  rcases packetTransaction_cases dispatchParse_stages p s.config.strictF s.config.zeroByte with
    ⟨e, he⟩ | ⟨bs', fl', g, -, hg⟩
  · rw [he q _ hswitches] at h
    exact absurd (committed_skipCount h) (Nat.succ_ne_self _)
  · rw [hg q _ hswitches, exceedsCap_of_unbounded rfl] at h
    have hbs : bs' = bs := List.append_cancel_left (committed_obuf h)
    have hover : exceedsCap s.config (s.obuf.length + bs'.length) = true := by
      rw [hbs, ← Bool.not_eq_false]
      exact mt fits_iff.2 hnofit
    rw [hg q s ⟨rfl, rfl⟩, if_pos hover]
    exact abortedBy_overflow _ _ _ s

/-- Settles O20: without a bound no commit faults; with one, the commit that does not fit does. -/
theorem commitBeyondCapacityFaults : Obligations.CommitBeyondCapacityFaults := by
  intro row hrow q f nri body s
  refine ⟨fun hcap t h => ?unbounded,
    fun bs fl cur u (h : exec (row.2 q f nri body) (unbounded s) = .next u) hcommitted hnofit => ?overflow⟩
  case unbounded =>
    cases exec_packet_effect (encode_packetRow row hrow q f nri body) h with
    | skipped | committed => rfl
    | overflowed bs fl cur overflow => simp [exceedsCap_of_unbounded hcap] at overflow
  case overflow =>
    rw [exec_packetRow hrow] at h
    obtain ⟨hd, h⟩ := accepted_next h
    cases h
    have hd : s.config.donSort = false := hd
    rw [exec_packetRow hrow, runPacket, accepted_of hd]
    exact ⟨_, rfl, packetTransaction_overflows hcommitted hnofit⟩

/-! ## The atomic call (R130) -/

/-- On a ready machine with its Frame supplied: call start, the packets of the snapshot, call end. -/
theorem depacketizeAtomic_of_ready {s : State} {ref : Nat} {F : Frame} (h : s.ready)
    (hF : lookupFrame s.frames ref = some F) :
    depacketizeAtomic ref s = .next (callPackets (snapshot F) (beginCall ref F s)) := by
  rw [depacketizeAtomic, issue_ready h, withFrame_of hF]

/-- Settles O35: with no packet the call end follows the call start. -/
theorem emptyFrameGivesAnEmptyBuffer : Obligations.EmptyFrameGivesAnEmptyBuffer := by
  intro s ref F h hF hempty
  have hsnapshot : snapshot F = [] := by simp [snapshot, distinctPackets, hempty]
  rw [depacketizeAtomic_of_ready h hF, hsnapshot]
  exact ⟨_, rfl, rfl, rfl, rfl, rfl⟩

/-! ### Determinism (R137) -/

/-- `u` has the configuration, the reply and every register that the host can read from `s`. -/
def SameRegisters (s u : State) : Prop :=
  ∃ work frames host freeIdx, u = { s with work := work, frames := frames, host := host, freeIdx := freeIdx }

theorem SameRegisters.switches {s u : State} (h : SameRegisters s u) :
    Switches s.config.strictF s.config.zeroByte u := by
  obtain ⟨work, frames, host, freeIdx, rfl⟩ := h
  exact ⟨rfl, rfl⟩

theorem packetTransaction_sameRegisters {s u : State} (h : SameRegisters s u) (q : Nat) (p : Bytes) :
    SameRegisters (packetTransaction dispatchParse q p s) (packetTransaction dispatchParse q p u) := by
  rcases packetTransaction_cases dispatchParse_stages p s.config.strictF s.config.zeroByte with
    ⟨e, he⟩ | ⟨bs, fl, g, -, hg⟩
  · rw [he q s ⟨rfl, rfl⟩, he q u h.switches]
    obtain ⟨work, frames, host, freeIdx, rfl⟩ := h
    exact ⟨_, _, _, _, rfl⟩
  · rw [hg q s ⟨rfl, rfl⟩, hg q u h.switches]
    obtain ⟨work, frames, host, freeIdx, rfl⟩ := h
    dsimp only
    split <;> exact ⟨_, _, _, _, rfl⟩

theorem callPackets_sameRegisters {s u : State} (h : SameRegisters s u) (pkts : List (Nat × Bytes)) :
    SameRegisters (callPackets pkts s) (callPackets pkts u) := by
  induction pkts generalizing s u with
  | nil =>
    obtain ⟨work, frames, host, freeIdx, rfl⟩ := h
    exact ⟨_, _, _, _, rfl⟩
  | cons e rest ih =>
    have hnext := packetTransaction_sameRegisters h e.1 e.2
    have hbusy : (packetTransaction dispatchParse e.1 e.2 u).busy = (packetTransaction dispatchParse e.1 e.2 s).busy := by
      obtain ⟨work, frames, host, freeIdx, hu⟩ := hnext
      rw [hu]
    simp only [callPackets, hbusy]
    split
    · exact ih hnext
    · exact hnext

/-- A call starts with the same registers from every ready state of one configuration (R131). -/
theorem beginCall_sameRegisters {s u : State} (hs : s.ready) (hu : u.ready) (hconfig : s.config = u.config)
    (r r' : Nat) (F G : Frame) : SameRegisters (beginCall r F s) (beginCall r' G u) := by
  refine ⟨(beginCall r' G u).work, u.frames, u.host, u.freeIdx, ?_⟩
  obtain ⟨-, -, hsclear⟩ := hs
  obtain ⟨-, -, huclear⟩ := hu
  simp only [beginCall, callStart, hsclear, huclear, hconfig]

theorem SameRegisters.sameResult {s u : State} (h : SameRegisters s u) : sameResult s u := by
  obtain ⟨work, frames, host, freeIdx, rfl⟩ := h
  exact ⟨rfl, rfl, rfl, rfl, rfl, rfl, rfl, rfl, rfl⟩

/-- The Frame of a call is read only (R130). -/
theorem callPackets_frames (pkts : List (Nat × Bytes)) (s : State) : (callPackets pkts s).frames = s.frames := by
  induction pkts generalizing s with
  | nil => rfl
  | cons e rest ih =>
    have hnext := packetEffect_frames (packetTransaction_effect dispatchParse_stages e.1 e.2 s)
    simp only [callPackets]
    split
    · rw [ih, hnext]
    · exact hnext

/-- Settles O34: two calls on one snapshot start with the same registers, and each packet keeps them the same. -/
theorem depacketizeResultDependsOnItsFrameOnly : Obligations.DepacketizeResultDependsOnItsFrameOnly := by
  intro s u t v r r' F G hs hu hconfig hF hG hsnapshot ht hv
  have hsnapshot : snapshot F = snapshot G := hsnapshot
  rw [depacketizeAtomic_of_ready hs hF] at ht
  rw [depacketizeAtomic_of_ready hu hG, ← hsnapshot] at hv
  cases ht
  cases hv
  exact ⟨(callPackets_sameRegisters (beginCall_sameRegisters hs hu hconfig r r' F G) _).sameResult,
    callPackets_frames _ _⟩

/-! ### Without a capacity bound (R143, R63) -/

/-- `t` is `s` with `bs` appended to OBUF and FLAGS at `fl`, but for the skip log and the transient registers: what the
packets of a call can make of `s` without ending the call. -/
def Grown (bs : Bytes) (fl : Byte) (s t : State) : Prop :=
  ∃ skipCount cause seq work, t =
    { s with obuf := s.obuf ++ bs, flags := fl, skipCount := skipCount, lastSkipCause := cause, lastSkipSeq := seq,
             work := work }

theorem Grown.trans {bs bs' : Bytes} {fl fl' : Byte} {s t u : State} (h : Grown bs fl s t) (k : Grown bs' fl' t u) :
    Grown (bs ++ bs') fl' s u := by
  obtain ⟨_, _, _, _, rfl⟩ := h
  obtain ⟨skipCount, cause, seq, work, rfl⟩ := k
  exact ⟨skipCount, cause, seq, work, by simp⟩

/-- With no bound a packet adds its contribution, which a skipped packet has none of. -/
theorem packetTransaction_grown {s : State} (hcap : s.config.bufCap = none) (q : Nat) (p : Bytes) :
    Grown (contribution s.config p).1 (s.flags ||| (contribution s.config p).2) s
      (packetTransaction dispatchParse q p s) := by
  rcases packetTransaction_contribution hcap p with ⟨hnothing, e, he⟩ | ⟨-, g, hg⟩
  · rw [he q s ⟨rfl, rfl⟩, hnothing]
    exact ⟨s.skipCount + 1, e.code, q, (afterSkip e q s).work, by simp [afterSkip]⟩
  · rw [hg q s ⟨rfl, rfl⟩, exceedsCap_of_unbounded hcap]
    exact ⟨_, _, _, _, rfl⟩

/-- With no bound a call runs to its call end, each packet adding its contribution to what is there. -/
theorem callPackets_grown {s : State} {c : Config} (hconfig : s.config = c) (hcap : c.bufCap = none)
    (hb : s.busy = true) (pkts : List (Nat × Bytes)) :
    ∃ t, callPackets pkts s = callEnd t ∧
      Grown (pkts.flatMap fun e => (contribution c e.2).1) (pkts.foldl (fun b e => b ||| (contribution c e.2).2) s.flags)
        s t := by
  induction pkts generalizing s with
  | nil => exact ⟨s, rfl, s.skipCount, s.lastSkipCause, s.lastSkipSeq, s.work, by simp⟩
  | cons e rest ih =>
    subst hconfig
    have hpacket := packetTransaction_grown hcap e.1 e.2
    have hnext : (packetTransaction dispatchParse e.1 e.2 s).config = s.config ∧
        (packetTransaction dispatchParse e.1 e.2 s).busy = true ∧
        (packetTransaction dispatchParse e.1 e.2 s).flags = s.flags ||| (contribution s.config e.2).2 := by
      obtain ⟨_, _, _, _, heq⟩ := hpacket
      rw [heq]
      exact ⟨rfl, hb, rfl⟩
    obtain ⟨hconfig, hbusy, hflags⟩ := hnext
    obtain ⟨t, ht, hgrown⟩ := ih hconfig hbusy
    refine ⟨t, by simp only [callPackets, hbusy, if_true, ht], ?_⟩
    rw [hflags] at hgrown
    exact hpacket.trans hgrown

/-- Settles O36: a call starts empty and only grows, packet after packet. -/
theorem bufferIsTheContributionsInOrder : Obligations.BufferIsTheContributionsInOrder := by
  intro s ref F h hcap hF
  obtain ⟨t, ht, _, _, _, _, rfl⟩ :=
    callPackets_grown (beginCall_config s ref F) hcap (beginCall_busy s ref F) (snapshot F)
  refine ⟨_, depacketizeAtomic_of_ready h hF, ?_⟩
  rw [ht]
  obtain ⟨-, -, hclear⟩ := h
  refine ⟨hclear, rfl, rfl, rfl, ?obuf, ?flags, rfl⟩
  case obuf => simp [snapshot, distinctPackets, List.flatMap_map]
  case flags => simp [snapshot, distinctPackets, List.foldl_map]

end Sys2Proof.Proofs.Depacketizer

/-! The dispatch (spec/42_dispatch.md): which row a packet selects, what the single NAL and the reserved rows do, and where
a set F bit is a skip. -/

namespace Sys2Proof.Proofs.Dispatch

open Sys2Proof Sys2Proof.Machine Sys2Proof.Machine.Claim
open Sys2Proof.Proofs.Scope Sys2Proof.Proofs.Encoding Sys2Proof.Proofs.Depacketizer

/-! ## The rows (R86, R160, R162) -/

/-- Every row has the length check of R160. -/
theorem wf_packetRow : ∀ row ∈ packetRows, ∀ q f nri body, (row.2 q f nri body).wf = bodyLongEnough body := by
  simp [packetRows, singleNalRows, reservedRows, Instr.wf]

/-- Every type has a row, so no type is illegal (R162). -/
theorem exists_packetRow (t : BitVec 5) : ∃ row ∈ packetRows, row.1 = t := by
  have hmem : ∀ t : BitVec 5, t ∈ packetRows.map (fun row => row.1) := by decide
  simpa using hmem t

/-- The dispatch field is the low 5 bits of byte 0 (R72, R162). -/
theorem headerType_toNat (h : Byte) : (headerType h).toNat = (h &&& 0x1F).toNat := by
  revert h; decide

/-- A payload is the encoding of the row of its type, with byte 0 taken apart into the operands (R71, R86). -/
theorem encode_packetRow_headerType {row : BitVec 5 × PacketRow} (hrow : row ∈ packetRows) {h : Byte}
    (ht : row.1 = headerType h) (q : Nat) (body : Bytes) :
    encode (row.2 q (headerF h) (headerNri h) body) = .packet q (h :: body) := by
  rw [encode_packetRow row hrow, ht, encodePacket, headerByte_fields]

theorem decode_short {q : Nat} {p : Bytes} (hp : p.length ≤ 2) : decode (.packet q p) = .error .shortPayload := by
  match p, hp with
  | [], _ | [_], _ | [_, _], _ => rfl

/-- Settles O2: the payload is the encoding of the row of its type, and decoding gives back what was encoded. -/
theorem everyPacketSelectsExactlyOneRow : Obligations.EveryPacketSelectsExactlyOneRow := by
  refine ⟨by decide, fun q h body hbody => ?_, fun q p hp => decode_short hp⟩
  obtain ⟨row, hrow, ht⟩ := exists_packetRow (headerType h)
  have hwf : (row.2 q (headerF h) (headerNri h) body).wf = true := by
    rw [wf_packetRow row hrow, bodyLongEnough, decide_eq_true hbody]
  have hencode := encode_packetRow_headerType hrow ht q body
  have hdecode := decodeOfEncodeIsTheInstruction _ hwf
  rw [hencode] at hdecode
  exact ⟨row, hrow, ht ▸ headerType_toNat h, hdecode, hwf, hencode⟩

/-! ## A packet that passes the checks before the dispatch (R160, R161) -/

/-- The strict check of byte 0, on a payload that is long enough for it (R161). -/
theorem parsePacket_of_long (rule : Bytes → State → Except SkipCause State) (h : Byte) {body : Bytes}
    (hbody : 2 ≤ body.length) (s : State) :
    parsePacket rule (h :: body) s =
      if s.config.strictF && headerF h then .error .fbit else rule (h :: body) s := by
  match body, hbody with
  | _ :: _ :: _, _ => rfl

/-- A packet row whose rule stages what fits in OBUF commits it (R134). -/
theorem exec_packetRow_commits {row : BitVec 5 × PacketRow} (hrow : row ∈ packetRows) {q : Nat} {f : Bool}
    {nri : BitVec 2} {body bs : Bytes} {fl : Byte} {cur : Nat} {s : State} (hd : s.config.donSort = false)
    (hbody : 2 ≤ body.length) (hF : (s.config.strictF && f) = false)
    (hstaged : parseRule row.1 (headerByte f nri row.1 :: body) (clearStage s) =
      .ok (staged bs fl cur (clearStage s)))
    (hfits : fits s bs.length) :
    ∃ t, exec (row.2 q f nri body) s = .next t ∧ committed bs fl cur s t := by
  have hparse : parsePacket (parseRule row.1) (headerByte f nri row.1 :: body) (clearStage s) =
      .ok (staged bs fl cur (clearStage s)) := by
    rw [parsePacket_of_long _ _ hbody, clearStage_config, headerF_headerByte, hF, hstaged]
    rfl
  refine ⟨afterCommit bs fl cur s, ?_, [], 0, rfl⟩
  rw [exec_packetRow hrow, runPacket_dispatchParse, runPacket, accepted_of hd, packetTransaction_commit hparse,
    fits_iff.1 hfits]
  rfl

/-! ## Single NAL units (R164 to R168) -/

theorem mem_packetRows_of_singleNal {row : BitVec 5 × PacketRow} (hrow : row ∈ singleNalRows) : row ∈ packetRows :=
  List.mem_append_left _ (List.mem_append_left _ hrow)

theorem parseRule_singleNalRow : ∀ row ∈ singleNalRows, parseRule row.1 = singleNal := by
  simp [singleNalRows, parseRule]

/-- The flag that classifying a header stages is the one R166 gives its type. -/
theorem headerFlags_eq_flagOfType (h : Byte) : headerFlags h = flagOfType (headerType h) := by
  revert h; decide

/-- What stands before a unit is the zero byte of R168 and the start code, as in the record of R85. -/
theorem recordHead_append (c : Config) (h : Byte) (rest : Bytes) :
    recordHead c h ++ h :: rest = recordOf c (h :: rest) := by
  simp [recordHead, recordOf, zeroByteApplies, startCode, or_assoc]

/-- `SingleNal` of a unit that passes the strict check stages its record and its flag (R164). -/
theorem singleNal_cons {h : Byte} {s : State} (hF : (s.config.strictF && headerF h) = false) (rest : Bytes) :
    singleNal (h :: rest) s =
      .ok (staged (recordOf s.config (h :: rest)) (flagOfType (headerType h)) s.work.cur s) := by
  rw [singleNal, emitUnit_cons, hF, recordHead_append, headerFlags_eq_flagOfType]
  rfl

/-- Settles O11: the row's rule is `SingleNal`, and what it stages is committed. -/
theorem singleNalUnitIsWrittenWhole : Obligations.SingleNalUnitIsWrittenWhole := by
  intro row hrow q f nri body s hd hbody hF hfits
  refine exec_packetRow_commits (mem_packetRows_of_singleNal hrow) hd hbody hF ?_ hfits
  have hclear : ((clearStage s).config.strictF && headerF (headerByte f nri row.1)) = false := by
    rw [clearStage_config, headerF_headerByte, hF]
  rw [parseRule_singleNalRow row hrow, singleNal_cons hclear, headerType_headerByte]
  rfl

/-! ## Reserved types (R163) -/

theorem mem_packetRows_of_reserved {row : BitVec 5 × PacketRow} (hrow : row ∈ reservedRows) : row ∈ packetRows :=
  List.mem_append_left _ (List.mem_append_right _ hrow)

theorem parseRule_reservedRow : ∀ row ∈ reservedRows, parseRule row.1 = reserved := by
  simp [reservedRows, parseRule]

/-- Settles O12: the row's rule stages nothing, and nothing is what is committed. -/
theorem reservedTypesAreIgnored : Obligations.ReservedTypesAreIgnored := by
  intro row hrow q f nri body s hd hbody hF hfits
  refine exec_packetRow_commits (mem_packetRows_of_reserved hrow) hd hbody hF ?_ hfits
  rw [parseRule_reservedRow row hrow]
  exact congrArg Except.ok (staged_nothing (clearStage s)).symm

/-! ## The F bit (R161, R167) -/

/-- In strict mode a set F bit is a skip before the dispatch, whatever the rule is (R161). -/
theorem runPacket_fbit (rule : Bytes → State → Except SkipCause State) (q : Nat) {h : Byte} {body : Bytes} {s : State}
    (hd : s.config.donSort = false) (hstrict : s.config.strictF = true) (hh : headerF h = true)
    (hbody : 2 ≤ body.length) : runPacket rule q (h :: body) s = .next (afterSkip .fbit q s) := by
  have hparse : parsePacket rule (h :: body) (clearStage s) = .error .fbit := by
    rw [parsePacket_of_long _ _ hbody, clearStage_config, hstrict, hh]
    rfl
  rw [runPacket, accepted_of hd, packetTransaction_skip hparse]

/-- With P_STRICT_F = 0 the rule skips no payload with cause FBIT. -/
def NoFbitWhenLenient (rule : Bytes → State → Except SkipCause State) : Prop :=
  ∀ (p : Bytes) (s : State), s.config.strictF = false → rule p s ≠ .error .fbit

/-- With P_STRICT_F = 0 a unit with a header byte is always staged (R167). -/
theorem emitUnit_cons_of_lenient {s : State} (hs : s.config.strictF = false) (h : Byte) (rest : Bytes) :
    emitUnit (h :: rest) s = .ok (staged (recordHead s.config h ++ h :: rest) (headerFlags h) s.work.cur s) := by
  rw [emitUnit_cons, hs]
  rfl

theorem reserved_noFbit : NoFbitWhenLenient reserved := fun _ _ _ => nofun

theorem singleNal_noFbit : NoFbitWhenLenient singleNal
  | [], _, _ => nofun
  | h :: rest, s, hs => by rw [singleNal, emitUnit_cons_of_lenient hs]; exact nofun

/-- Units are emitted one after the other, and none of them changes the configuration. -/
theorem aggregateUnits_noFbit (p : Bytes) (xtra turns : Nat) {s : State} (hs : s.config.strictF = false) :
    aggregateUnits p xtra turns s ≠ .error .fbit := by
  induction turns generalizing s with
  | zero => exact nofun
  | succ turns ih =>
    unfold aggregateUnits
    split
    · exact nofun
    · split
      · exact nofun
      · next size _ =>
        dsimp only
        split_ifs
        · exact nofun
        · exact nofun
        · exact nofun
        · cases slice p (s.work.cur + 2 + xtra) (s.work.cur + 2 + xtra + size) with
          | nil => exact nofun
          | cons h rest =>
            rw [emitUnit_cons_of_lenient hs]
            exact ih hs

theorem aggregate_noFbit (a : AggParams) : NoFbitWhenLenient (aggregate a) := by
  intro p s hs
  unfold aggregate
  split
  · exact nofun
  · exact aggregateUnits_noFbit p a.xtra p.length hs

theorem fragment_noFbit (don : Bool) : NoFbitWhenLenient (fragment don) := by
  intro p s _
  unfold fragment
  split <;> exact nofun

/-- No rule that the dispatch selects skips with FBIT in lenient mode (R86, R161). -/
theorem parseRule_noFbit (t : BitVec 5) : NoFbitWhenLenient (parseRule t) := by
  unfold parseRule
  split
  · exact reserved_noFbit
  · exact aggregate_noFbit _
  · exact aggregate_noFbit _
  · exact aggregate_noFbit _
  · exact aggregate_noFbit _
  · exact fragment_noFbit _
  · exact fragment_noFbit _
  · exact reserved_noFbit
  · exact reserved_noFbit
  · exact singleNal_noFbit

theorem dispatchParse_noFbit : NoFbitWhenLenient dispatchParse
  | [], _, _ => nofun
  | h :: body, s, hs => parseRule_noFbit (headerType h) (h :: body) s hs

/-- The check of R161 is off in lenient mode, and the length check has a cause of its own (R160). -/
theorem parsePacket_noFbit {rule : Bytes → State → Except SkipCause State} (hrule : NoFbitWhenLenient rule) :
    NoFbitWhenLenient (parsePacket rule) := by
  intro p s hs
  by_cases hp : p.length ≤ 2
  · rw [parsePacket_short rule hp]
    exact nofun
  · obtain ⟨h, body, rfl⟩ := List.exists_cons_of_length_pos (by omega : 0 < p.length)
    have hbody : 2 ≤ body.length := by simp at hp; omega
    rw [parsePacket_of_long rule h hbody, hs]
    exact hrule (h :: body) s hs

/-- FBIT alone has code 2 (R252). -/
theorem code_eq_two_iff (e : SkipCause) : e.code = 2 ↔ e = .fbit := by
  cases e <;> decide

/-- A skip is logged: one more packet, with its cause (R253). -/
theorem skippedAs_log {code : BitVec 8} {q : Nat} {s t : State} (h : skippedAs code q s t) :
    t.skipCount = s.skipCount + 1 ∧ t.lastSkipCause = code := by
  obtain ⟨_, _, rfl⟩ := h
  exact ⟨rfl, rfl⟩

/-- Only a parsing rule makes a skip, so a packet skipped with FBIT is one whose parsing says so (R133, R251). -/
theorem parsePacket_of_skippedAs_fbit {rule : Bytes → State → Except SkipCause State} (hr : Stages rule) {q : Nat}
    {p : Bytes} {s : State} (h : skippedAs 2 q s (packetTransaction rule q p s)) :
    parsePacket rule p (clearStage s) = .error .fbit := by
  obtain ⟨hcount, hcause⟩ := skippedAs_log h
  rcases parsePacket_stages hr p s.config.strictF s.config.zeroByte with ⟨e, he⟩ | ⟨bs, fl, g, -, hg⟩
  · have hparse := he (clearStage s) ⟨rfl, rfl⟩
    rw [packetTransaction_skip hparse] at hcause
    rw [hparse, (code_eq_two_iff e).1 hcause]
  · have hsame : (packetTransaction rule q p s).skipCount = s.skipCount := by
      rw [packetTransaction_commit (hg (clearStage s) ⟨rfl, rfl⟩)]
      split <;> rfl
    omega

/-- Settles O19: the length check, then the F bit, then the dispatch; and in lenient mode no rule answers FBIT. -/
theorem strictModeSkipsASetFBit : Obligations.StrictModeSkipsASetFBit := by
  refine ⟨fun row hrow q nri body s hd hstrict hbody => ⟨_, ?fbit, skippedAs_afterSkip .fbit q s⟩,
    fun row hrow q f nri body s t hlenient h hskip => ?lenient,
    fun row hrow q nri body s hd _ hbody => ⟨_, ?short, skippedAs_afterSkip .short q s⟩⟩
  case fbit => rw [exec_packetRow hrow, runPacket_fbit _ q hd hstrict (headerF_headerByte _ _ _) hbody]
  case lenient =>
    rw [exec_packetRow hrow] at h
    obtain ⟨-, h⟩ := accepted_next h
    cases h
    exact parsePacket_noFbit dispatchParse_noFbit _ (clearStage s) hlenient
      (parsePacket_of_skippedAs_fbit dispatchParse_stages hskip)
  case short =>
    have hlen : (headerByte true nri row.1 :: body).length ≤ 2 := hbody
    rw [exec_packetRow hrow, runPacket_short _ q hlen hd]

end Sys2Proof.Proofs.Dispatch

/-! The aggregation unpacker (spec/43_aggregation.md): what one turn does with a size field, that well-formed units are
staged one after the other, and which malformed unit is which skip. -/

namespace Sys2Proof.Proofs.Aggregation

open Sys2Proof Sys2Proof.Machine Sys2Proof.Machine.Claim
open Sys2Proof.Proofs.Scope Sys2Proof.Proofs.Depacketizer Sys2Proof.Proofs.Dispatch

/-! ## Size fields and slices (R83, R190) -/

@[simp] theorem be16_length (n : Nat) : (be16 n).length = 2 := rfl

/-- The two bytes of a 16-bit size give the size back (R83). -/
theorem size16_be16 {n : Nat} (hn : n < 65536) (before rest : Bytes) :
    size16 (before ++ (be16 n ++ rest)) before.length = some n := by
  have hlow : n % 256 < 2 ^ 8 := by omega
  simp only [size16, be16, List.drop_left, List.cons_append, BitVec.toNat_ofNat]
  rw [← Nat.shiftLeft_add_eq_or_of_lt hlow, Nat.shiftLeft_eq, Option.some_inj]
  omega

/-- A slice that starts behind the first part of a payload is a slice of the second part. -/
theorem slice_append_left (before rest : Bytes) (a n : Nat) :
    slice (before ++ rest) (before.length + a) (before.length + a + n) = (rest.drop a).take n := by
  rw [slice, List.drop_take, Nat.add_sub_cancel_left, List.drop_length_add_append]

/-! ## One turn of the loop (R190) -/

section Turn

variable {p : Bytes} {xtra turns : Nat} {s : State}

/-- At the end of the payload the loop ends, however many turns are left. -/
theorem aggregateUnits_done (h : p.length ≤ s.work.cur) : aggregateUnits p xtra turns s = .ok s := by
  cases turns with
  | zero => rfl
  | succ turns => rw [aggregateUnits, if_pos h]

variable {before : Bytes}

/-- One byte is no size field (R198). -/
theorem aggregateUnits_oneByte {b : Byte} (hp : p = before ++ [b]) (hcur : s.work.cur = before.length) :
    aggregateUnits p xtra (turns + 1) s = .error .truncSize := by
  have hleft : ¬ p.length ≤ s.work.cur := by simp [hp, hcur]
  have hsize : size16 p s.work.cur = none := by simp [hp, hcur, size16]
  rw [aggregateUnits, if_neg hleft, hsize]

/-- The checks of a turn after its size field, in R190's order, on the bytes that follow the field. -/
theorem aggregateUnits_sizeField {n : Nat} {rest : Bytes} (hn : n < 65536) (hp : p = before ++ (be16 n ++ rest))
    (hcur : s.work.cur = before.length) :
    aggregateUnits p xtra (turns + 1) s =
      if rest.length < xtra then .error .truncExtra
      else if n = 0 then .error .zeroSize
      else if rest.length < xtra + n then .error .truncUnit
      else (emitUnit ((rest.drop xtra).take n) s).bind fun s' =>
        aggregateUnits p xtra turns (setCur (before.length + 2 + xtra + n) s') := by
  have hlen : p.length = before.length + 2 + rest.length := by simp [hp]; omega
  have hsize : size16 p s.work.cur = some n := by rw [hp, hcur, size16_be16 hn]
  have hslice : slice p (before.length + 2 + xtra) (before.length + 2 + xtra + n) = (rest.drop xtra).take n := by
    simpa [hp] using slice_append_left (before ++ be16 n) rest xtra n
  have hextra : p.length < before.length + 2 + xtra ↔ rest.length < xtra := by omega
  have hunit : p.length < before.length + 2 + xtra + n ↔ rest.length < xtra + n := by omega
  rw [aggregateUnits, if_neg (by omega), hsize]
  simp only [hcur, hslice, hextra, hunit]
  cases emitUnit ((rest.drop xtra).take n) s <;> rfl

/-- The turn where the extra bytes `x` are all there: `d` is what stands after them. -/
theorem aggregateUnits_extra {n : Nat} {x d : Bytes} (hn : n < 65536) (hp : p = before ++ (be16 n ++ (x ++ d)))
    (hx : x.length = xtra) (hcur : s.work.cur = before.length) :
    aggregateUnits p xtra (turns + 1) s =
      if n = 0 then .error .zeroSize
      else if d.length < n then .error .truncUnit
      else (emitUnit (d.take n) s).bind fun s' =>
        aggregateUnits p xtra turns (setCur (before.length + 2 + xtra + n) s') := by
  subst hx
  simp [aggregateUnits_sizeField hn hp hcur]

/-- The turn on a whole unit of at least one byte is decided by its strict check (R167). -/
theorem aggregateUnits_unit {x : Bytes} {h : Byte} {u rest : Bytes} (hn : (h :: u).length < 65536)
    (hp : p = before ++ (unitField (x, h :: u) ++ rest)) (hx : x.length = xtra) (hcur : s.work.cur = before.length) :
    aggregateUnits p xtra (turns + 1) s =
      if s.config.strictF && headerF h then .error .fbit
      else aggregateUnits p xtra turns
        (staged (recordOf s.config (h :: u)) (flagOfUnit (h :: u)) (before ++ unitField (x, h :: u)).length s) := by
  have hbytes : p = before ++ (be16 (h :: u).length ++ (x ++ (h :: u ++ rest))) := by simp [hp, unitField]
  have hend : (before ++ unitField (x, h :: u)).length = before.length + 2 + xtra + (h :: u).length := by
    simp [unitField, hx]; omega
  rw [aggregateUnits_extra hn hbytes hx hcur, if_neg (by simp), if_neg (by simp), List.take_left, emitUnit_cons,
    recordHead_append, headerFlags_eq_flagOfType, hend]
  split <;> rfl

/-- A well-formed unit is staged, and CUR moves past it (R190, R195). -/
theorem aggregateUnits_goodUnit {e : Bytes × Bytes} {rest : Bytes} (he : goodUnit s.config xtra e)
    (hp : p = before ++ (unitField e ++ rest)) (hcur : s.work.cur = before.length) :
    aggregateUnits p xtra (turns + 1) s =
      aggregateUnits p xtra turns
        (staged (recordOf s.config e.2) (flagOfUnit e.2) (before ++ unitField e).length s) := by
  obtain ⟨hx, hpos, hn, hF⟩ := he
  obtain ⟨x, u⟩ := e
  cases u with
  | nil => exact absurd hpos (Nat.lt_irrefl 0)
  | cons h u => rw [aggregateUnits_unit hn hp hx hcur, hF h u rfl]; rfl

/-- A malformed unit is a skip with the cause of the first check it fails (R190, R197, R198). -/
theorem aggregateUnits_badUnit {tail : Bytes} {code : BitVec 8} (hbad : BadUnit s.config xtra tail code)
    (hp : p = before ++ tail) (hcur : s.work.cur = before.length) :
    ∃ e : SkipCause, e.code = code ∧ aggregateUnits p xtra (turns + 1) s = .error e := by
  cases hbad with
  | truncSize b => exact ⟨.truncSize, rfl, aggregateUnits_oneByte hp hcur⟩
  | truncExtra n x hn hx => exact ⟨.truncExtra, rfl, by rw [aggregateUnits_sizeField hn hp hcur, if_pos hx]⟩
  | zeroSize x rest hx =>
    rw [List.append_assoc] at hp
    exact ⟨.zeroSize, rfl, by rw [aggregateUnits_extra (by omega) hp hx hcur, if_pos rfl]⟩
  | truncUnit n x d hn hx hd =>
    rw [List.append_assoc] at hp
    exact ⟨.truncUnit, rfl, by rw [aggregateUnits_extra hn hp hx hcur, if_neg (by omega), if_pos hd]⟩
  | fbit x h u rest hstrict hF hx hn =>
    exact ⟨.fbit, rfl, by rw [aggregateUnits_unit hn hp hx hcur, hstrict, hF]; rfl⟩

end Turn

/-! ## The well-formed units of a packet (R190, R195, R196) -/

/-- The loop stages well-formed units in payload order, one turn for each, whatever stands after them. -/
theorem aggregateUnits_goodUnits {p : Bytes} {xtra turns : Nat} {s : State} {units : List (Bytes × Bytes)}
    {before tail bs : Bytes} {fl : Byte} (hgood : ∀ e ∈ units, goodUnit s.config xtra e)
    (hp : p = before ++ (units.flatMap unitField ++ tail)) :
    aggregateUnits p xtra (turns + units.length) (staged bs fl before.length s) =
      aggregateUnits p xtra turns
        (staged (bs ++ units.flatMap fun e => recordOf s.config e.2)
          (units.foldl (fun b e => b ||| flagOfUnit e.2) fl) (before ++ units.flatMap unitField).length s) := by
  induction units generalizing before bs fl with
  | nil => simp
  | cons e units ih =>
    obtain ⟨he, hunits⟩ := List.forall_mem_cons.1 hgood
    have hfirst : p = before ++ (unitField e ++ (units.flatMap unitField ++ tail)) := by simp [hp]
    have hthen : p = (before ++ unitField e) ++ (units.flatMap unitField ++ tail) := by simp [hp]
    rw [List.length_cons, ← Nat.add_assoc,
      aggregateUnits_goodUnit (s := staged bs fl before.length s) he hfirst rfl, staged_staged, ih hunits hthen]
    simp

/-- Every unit takes a byte and more, so a payload has turns for all its units (R195). -/
theorem length_le_flatMap_unitField (units : List (Bytes × Bytes)) :
    units.length ≤ (units.flatMap unitField).length := by
  induction units with
  | nil => exact Nat.le_refl 0
  | cons e units ih => simp [unitField]; omega

/-- `Aggregate` stages the well-formed units after the DON, and has turns left for the bytes after them. -/
theorem aggregate_goodUnits {a : AggParams} {s : State} {units : List (Bytes × Bytes)} {don : Bytes}
    (hdon : don.length = a.donb) (hgood : ∀ e ∈ units, goodUnit s.config a.xtra e) (h : Byte) (tail : Bytes) :
    ∃ turns, tail.length ≤ turns ∧
      aggregate a (h :: (don ++ units.flatMap unitField ++ tail)) s =
        aggregateUnits (h :: (don ++ units.flatMap unitField ++ tail)) a.xtra turns
          (staged (units.flatMap fun e => recordOf s.config e.2)
            (units.foldl (fun b e => b ||| flagOfUnit e.2) 0) (1 + (don ++ units.flatMap unitField).length) s) := by
  have hturns := length_le_flatMap_unitField units
  have hlen : (h :: (don ++ units.flatMap unitField ++ tail)).length =
      1 + don.length + (units.flatMap unitField).length + tail.length := by simp; omega
  obtain ⟨turns, heq⟩ : ∃ turns,
      (h :: (don ++ units.flatMap unitField ++ tail)).length = turns + units.length :=
    ⟨_, (Nat.sub_add_cancel (by omega)).symm⟩
  have hstart : setCur (1 + a.donb) s = staged [] 0 (h :: don).length s := by
    simp [setCur, staged, hdon, Nat.add_comm]
  refine ⟨turns, by omega, ?_⟩
  rw [aggregate, if_neg (by omega), heq, hstart,
    aggregateUnits_goodUnits (before := h :: don) (tail := tail) hgood (by simp)]
  simp [Nat.add_comm]

/-! ## The rows (R191 to R194) -/

/-- An aggregation row is the packet-type row whose rule is `Aggregate` with its `DONB` and `XTRA` (R82). -/
theorem packetRow_of_aggregationRow : ∀ row ∈ aggregationRows, ∃ t, (t, row.2.2) ∈ packetRows ∧
    parseRule t = aggregate { donb := row.1, xtra := row.2.1 } := by
  simp only [aggregationRows, List.forall_mem_cons, List.not_mem_nil, false_implies, implies_true, and_true]
  exact ⟨⟨24, by simp [packetRows], rfl⟩, ⟨25, by simp [packetRows], rfl⟩, ⟨26, by simp [packetRows], rfl⟩,
    ⟨27, by simp [packetRows], rfl⟩⟩

/-- A packet row whose rule answers a cause is a skip with that cause (R251). -/
theorem exec_packetRow_skips {row : BitVec 5 × PacketRow} (hrow : row ∈ packetRows) {q : Nat} {f : Bool}
    {nri : BitVec 2} {body : Bytes} {e : SkipCause} {s : State} (hd : s.config.donSort = false)
    (hbody : 2 ≤ body.length) (hF : (s.config.strictF && f) = false)
    (hskip : parseRule row.1 (headerByte f nri row.1 :: body) (clearStage s) = .error e) :
    exec (row.2 q f nri body) s = .next (afterSkip e q s) := by
  have hparse : parsePacket (parseRule row.1) (headerByte f nri row.1 :: body) (clearStage s) = .error e := by
    rw [parsePacket_of_long _ _ hbody, clearStage_config, headerF_headerByte, hF, hskip]
    rfl
  rw [exec_packetRow hrow, runPacket_dispatchParse, runPacket, accepted_of hd, packetTransaction_skip hparse]

/-- Settles O13: the units are staged one after the other, the loop ends with the payload, and what is staged is
committed. -/
theorem aggregationWritesEveryUnit : Obligations.AggregationWritesEveryUnit := by
  intro row hrow q f nri don units s hd hF hdon hgood hbody hfits
  obtain ⟨t, ht, hrule⟩ := packetRow_of_aggregationRow row hrow
  refine exec_packetRow_commits ht hd hbody hF ?_ hfits
  obtain ⟨turns, -, hunits⟩ := aggregate_goodUnits (a := { donb := row.1, xtra := row.2.1 }) (s := clearStage s)
    hdon hgood (headerByte f nri t) []
  rw [List.append_nil] at hunits
  rw [hrule, hunits, aggregateUnits_done (Nat.add_comm _ _).le]
  rfl

/-- Settles O14: the turn after the well-formed units fails, and the transaction drops what they staged. -/
theorem malformedAggregationIsRolledBackWhole : Obligations.MalformedAggregationIsRolledBackWhole := by
  intro row hrow q f nri don units tail code s hd hF hdon hgood hbad hbody
  obtain ⟨t, ht, hrule⟩ := packetRow_of_aggregationRow row hrow
  obtain ⟨turns, hturns, hunits⟩ := aggregate_goodUnits (a := { donb := row.1, xtra := row.2.1 }) (s := clearStage s)
    hdon hgood (headerByte f nri t) tail
  have htail : 0 < tail.length := by cases hbad <;> simp [unitField]
  obtain ⟨left, rfl⟩ := Nat.exists_eq_add_one_of_ne_zero (Nat.ne_of_gt (htail.trans_le hturns))
  obtain ⟨e, rfl, hskip⟩ := aggregateUnits_badUnit (turns := left)
    (before := headerByte f nri t :: (don ++ units.flatMap unitField))
    (s := staged (units.flatMap fun e => recordOf s.config e.2) (units.foldl (fun b e => b ||| flagOfUnit e.2) 0)
      (1 + (don ++ units.flatMap unitField).length) (clearStage s)) hbad rfl (Nat.add_comm _ _)
  exact ⟨_, exec_packetRow_skips ht hd hbody hF (by rw [hrule]; exact hunits.trans hskip), skippedAs_afterSkip e q s⟩

end Sys2Proof.Proofs.Aggregation

/-! The FU-A and FU-B reassembly (spec/44_fragmentation.md): what a fragment stages, which FU-B packet is a skip, and that
PACKETIZE and then DEPACKETIZE of a NAL unit give the unit back. -/

namespace Sys2Proof.Proofs.Fragmentation

open Sys2Proof Sys2Proof.Machine Sys2Proof.Machine.Claim
open Sys2Proof.Proofs.Scope Sys2Proof.Proofs.Effects Sys2Proof.Proofs.Packetizer Sys2Proof.Proofs.Depacketizer
open Sys2Proof.Proofs.Dispatch Sys2Proof.Proofs.Aggregation

/-! ## The reconstructed header (R84) -/

theorem topBits_headerByte (f : Bool) (nri : BitVec 2) (t : BitVec 5) :
    topBits (headerByte f nri t) = headerByte f nri 0 := by
  revert f nri t; decide

theorem typeBits_eq_headerByte (h : Byte) : typeBits h = headerByte false 0 (headerType h) := by
  revert h; decide

theorem headerByte_or_type (f : Bool) (nri : BitVec 2) (t : BitVec 5) :
    headerByte f nri 0 ||| headerByte false 0 t = headerByte f nri t := by
  revert f nri t; decide

/-- F and NRI come from the indicator, the type from the FU header (R84). -/
theorem reconstructedHeader_headerByte (f : Bool) (nri : BitVec 2) (t : BitVec 5) (fuh : Byte) :
    reconstructedHeader (headerByte f nri t) fuh = headerByte f nri (headerType fuh) := by
  rw [reconstructedHeader, topBits_headerByte, typeBits_eq_headerByte, headerByte_or_type]

/-! ## The rule `Fragment` (R220) -/

/-- The bytes between the FU header and the data: the DON of FU-B (R80, R81). -/
def donLength (don : Bool) : Nat := if don then 2 else 0

section Rule

variable {don : Bool} {donBytes : Bytes} {fuh : Byte}

/-- Whatever the DON bytes are, the data after them follows the record head. -/
theorem fragment_of_don (hdon : donBytes.length = donLength don) (ind fuh : Byte) (data : Bytes) (s : State) :
    fragment don (ind :: fuh :: (donBytes ++ data)) s = .ok (stageAppend data (fragmentHead ind fuh s)) := by
  cases don with
  | false =>
    obtain rfl := List.length_eq_zero_iff.1 hdon
    rfl
  | true =>
    obtain ⟨a, b, rfl⟩ := List.length_eq_two.1 hdon
    rfl

/-- A Start fragment stages start code, reconstructed header and data, and the flag of that header (R223). -/
theorem fragment_start (hdon : donBytes.length = donLength don) (hS : fuStart fuh = true) (ind : Byte) (data : Bytes)
    (s : State) :
    fragment don (ind :: fuh :: (donBytes ++ data)) s =
      .ok (staged ([0x00, 0x00, 0x01, reconstructedHeader ind fuh] ++ data)
        (flagOfType (headerType (reconstructedHeader ind fuh))) s.work.cur s) := by
  rw [fragment_of_don hdon, fragmentHead_eq, if_pos hS, stageAppend_eq, headerFlags_eq_flagOfType, staged_staged]
  simp [startCode]

/-- A continuation stages its data (R224). -/
theorem fragment_continuation (hdon : donBytes.length = donLength don) (hS : fuStart fuh = false) (ind : Byte)
    (data : Bytes) (s : State) :
    fragment don (ind :: fuh :: (donBytes ++ data)) s = .ok (staged data 0 s.work.cur s) := by
  rw [fragment_of_don hdon, fragmentHead_eq, hS, stageAppend_eq]
  rfl

end Rule

/-! ## The rows (R221, R222) -/

/-- An FU row is the packet-type row whose rule is `Fragment` with its DON field (R80, R81). -/
theorem packetRow_of_fragmentRow : ∀ row ∈ fragmentRows, ∃ t don, (t, row.2) ∈ packetRows ∧
    parseRule t = fragment don ∧ row.1 = donLength don := by
  simp only [fragmentRows, List.forall_mem_cons, List.not_mem_nil, false_implies, implies_true, and_true]
  exact ⟨⟨28, false, by simp [packetRows], rfl, rfl⟩, ⟨29, true, by simp [packetRows], rfl, rfl⟩⟩

/-- Settles O17: FU-B's rule finds no room for its DON, and the transaction logs the skip. -/
theorem fuBWithoutItsDonIsSkipped : Obligations.FuBWithoutItsDonIsSkipped := by
  intro q f nri a b s hd hF
  have hrow : ((29, .fuB) : BitVec 5 × PacketRow) ∈ packetRows := by simp [packetRows]
  exact ⟨_, exec_packetRow_skips (e := .truncDon) hrow hd (Nat.le_refl 2) hF rfl, skippedAs_afterSkip .truncDon q s⟩

/-- Settles O15: what the rule stages for a Start fragment is committed. -/
theorem startFragmentWritesTheReconstructedHeader : Obligations.StartFragmentWritesTheReconstructedHeader := by
  intro row hrow q f nri fuh donBytes data s hd hF hS hdon hbody hfits
  obtain ⟨t, don, ht, hrule, hlen⟩ := packetRow_of_fragmentRow row hrow
  refine exec_packetRow_commits ht hd hbody hF ?staged (by rw [List.length_append]; exact hfits)
  case staged =>
    rw [hrule, fragment_start (hdon.trans hlen) hS, reconstructedHeader_headerByte, headerType_headerByte]
    rfl

/-- Settles O16: what the rule stages for a continuation is committed. -/
theorem continuationFragmentAppendsItsDataOnly : Obligations.ContinuationFragmentAppendsItsDataOnly := by
  intro row hrow q f nri fuh donBytes data s hd hF hS hdon hbody hfits
  obtain ⟨t, don, ht, hrule, hlen⟩ := packetRow_of_fragmentRow row hrow
  refine exec_packetRow_commits ht hd hbody hF ?staged hfits
  case staged =>
    rw [hrule, fragment_continuation (hdon.trans hlen) hS]
    rfl

/-! ## Running a call to its end (R130, R287) -/

theorem runs_succ {s t : State} (h : step s = .next t) (k : Nat) : runs (k + 1) s = runs k t := by
  have hcore : Sys2Proof.core.step s = .next t := h
  simp only [runs, Host.Core.run, hcore]
  rfl

/-- A packet that leaves the call in flight moves PKT_IDX past it, within the same snapshot (R23, R38). -/
theorem packetEffect_goesOn {q : Nat} {s t : State} (h : PacketEffect q s t) (hb : t.busy = true) :
    t.config = s.config ∧ t.host = s.host ∧ t.work.pkts = s.work.pkts ∧ t.work.pktIdx = s.work.pktIdx + 1 := by
  cases h with
  | skipped | committed => exact ⟨rfl, rfl, rfl, rfl⟩
  | overflowed => exact absurd hb (by simp)

/-- A packet that leaves the call in flight is followed by the rest of the snapshot (R130). -/
theorem callPackets_cons_of_busy {q : Nat} {p : Bytes} {s t : State} (h : packetTransaction dispatchParse q p s = t)
    (hb : t.busy = true) (rest : List (Nat × Bytes)) : callPackets ((q, p) :: rest) s = callPackets rest t := by
  subst h
  exact if_pos hb

/-- A packet that ends the call is the last (R135). -/
theorem callPackets_cons_of_idle {q : Nat} {p : Bytes} {s : State}
    (hb : ¬ (packetTransaction dispatchParse q p s).busy = true) (rest : List (Nat × Bytes)) :
    callPackets ((q, p) :: rest) s = packetTransaction dispatchParse q p s :=
  if_neg hb

/-- With no overlapping host entry the steps of a call run the packets that are left, then its end. -/
theorem exists_runs_callPackets {s : State} {pkts : List (Nat × Bytes)} (hd : s.config.donSort = false)
    (hb : s.busy = true) (hh : ∀ it ∈ s.host.head?, it.overlap = false)
    (hleft : s.work.pkts.drop s.work.pktIdx = pkts) : ∃ k, runs k s = .next (callPackets pkts s) := by
  induction pkts generalizing s with
  | nil =>
    have hnone : s.work.pkts[s.work.pktIdx]? = none := by rw [← List.head?_drop, hleft]; rfl
    have hstep : step s = .next (callEnd s) := by
      rw [step_of_busy hd hb hh, engineEvent, hnone]
      rfl
    exact ⟨1, runs_succ hstep 0⟩
  | cons e rest ih =>
    obtain ⟨q, p⟩ := e
    have hp : s.work.pkts[s.work.pktIdx]? = some (q, p) := by rw [← List.head?_drop, hleft]; rfl
    have hstep : step s = .next (packetTransaction dispatchParse q p s) := by
      rw [step_of_packet hd hb hh hp, runPacket, accepted_of hd]
    by_cases hgoes : (packetTransaction dispatchParse q p s).busy = true
    · obtain ⟨hconfig, hhost, hpkts, hidx⟩ :=
        packetEffect_goesOn (packetTransaction_effect dispatchParse_stages q p s) hgoes
      have hrest : (packetTransaction dispatchParse q p s).work.pkts.drop
          (packetTransaction dispatchParse q p s).work.pktIdx = rest := by
        rw [hpkts, hidx, ← List.tail_drop, hleft]
        rfl
      obtain ⟨k, hk⟩ := ih (hconfig ▸ hd) hgoes (hhost ▸ hh) hrest
      exact ⟨k + 1, by rw [runs_succ hstep, hk, callPackets_cons_of_busy rfl hgoes]⟩
    · exact ⟨1, by rw [runs_succ hstep, callPackets_cons_of_idle hgoes]; rfl⟩

/-! ## The fragments of PACKETIZE as packets of a call (R221, R230) -/

theorem headerType_fuIndicator (h : Byte) : headerType (fuIndicator h) = 28 := by
  revert h; decide

theorem headerF_fuIndicator (h : Byte) : headerF (fuIndicator h) = headerF h := by
  revert h; decide

theorem fuStart_fuHeader (start last : Bool) (h : Byte) : fuStart (fuHeader start last h) = start := by
  revert start last h; decide

/-- A payload with PACKETIZE's FU indicator that passes the checks before the dispatch is committed if what `Fragment`
stages of it fits (R134, R160 to R162). -/
theorem packetTransaction_fuIndicator (q : Nat) {h : Byte} {body bs : Bytes} {fl : Byte} {s : State}
    (hF : (s.config.strictF && headerF h) = false) (hbody : 2 ≤ body.length)
    (hstaged : fragment false (fuIndicator h :: body) (clearStage s) =
      .ok (staged bs fl s.work.cur (clearStage s)))
    (hfits : fits s bs.length) :
    packetTransaction dispatchParse q (fuIndicator h :: body) s = afterCommit bs fl s.work.cur s := by
  have hparse : parsePacket dispatchParse (fuIndicator h :: body) (clearStage s) =
      .ok (staged bs fl s.work.cur (clearStage s)) := by
    rw [parsePacket_of_long _ _ hbody, clearStage_config, headerF_fuIndicator, hF, dispatchParse,
      headerType_fuIndicator]
    exact hstaged
  rw [packetTransaction_commit hparse, fits_iff.1 hfits]
  rfl

/-- The fragments of a NAL after its Start fragment, as packets (R105). -/
def laterFragments (F : Frame) (nal : Bytes) (h : Byte) (m : Nat) : List Packet :=
  (List.range (ceilDiv nal.length m - 1)).map fun k => fragmentAt F nal h m (k + 1)

/-- The data that FU-A packets carry: what follows the FU indicator and the FU header (R80). -/
def dataOf (pkts : List Packet) : Bytes := pkts.flatMap fun P => P.payload.drop 2

theorem dataOf_cons (P : Packet) (rest : List Packet) : dataOf (P :: rest) = P.payload.drop 2 ++ dataOf rest :=
  List.flatMap_cons

/-- What the snapshot holds of packets (R38, R132). -/
def inSnapshot (P : Packet) : Nat × Bytes := (P.seq, P.payload)

/-- The payload of a fragment after the Start fragment. -/
def IsLaterFragment (nal : Bytes) (h : Byte) (m : Nat) (p : Bytes) : Prop :=
  ∃ k, 0 < k ∧ k < ceilDiv nal.length m ∧ p = payloadAt nal h m k

/-- `t` is `s` with `bs` appended to OBUF and `fl` set in FLAGS, but for the transient registers: what packets that are
all committed make of `s`. -/
def Appended (bs : Bytes) (fl : Byte) (s t : State) : Prop :=
  ∃ w, t = { s with obuf := s.obuf ++ bs, flags := s.flags ||| fl, work := w }

theorem afterCommit_appended (bs : Bytes) (fl : Byte) (cur : Nat) (s : State) :
    Appended bs fl s (afterCommit bs fl cur s) :=
  ⟨_, rfl⟩

theorem Appended.trans {bs bs' : Bytes} {fl fl' : Byte} {s t u : State} (h : Appended bs fl s t)
    (k : Appended bs' fl' t u) : Appended (bs ++ bs') (fl ||| fl') s u := by
  obtain ⟨_, rfl⟩ := h
  obtain ⟨w, rfl⟩ := k
  exact ⟨w, by simp [BitVec.or_assoc]⟩

theorem fits_afterCommit {bs : Bytes} {fl : Byte} {cur n : Nat} {s : State} :
    fits (afterCommit bs fl cur s) n ↔ fits s (bs.length + n) := by
  simp [fits, afterCommit, Nat.add_assoc]

theorem fits_of_le {s : State} {n n' : Nat} (h : fits s n) (hle : n' ≤ n) : fits s n' :=
  fun k hk => (Nat.add_le_add_left hle _).trans (h k hk)

section Fragments

variable {nal : Bytes} {h : Byte} {m : Nat} {s : State}

theorem fragmentPackets_eq_cons_laterFragments (hm : 0 < m) (hnal : 0 < nal.length) (F : Frame) (h : Byte) :
    fragmentPackets F nal h m = fragmentAt F nal h m 0 :: laterFragments F nal h m := by
  have hcount : ceilDiv nal.length m = ceilDiv nal.length m - 1 + 1 := (Nat.sub_add_cancel (ceilDiv_pos hm hnal)).symm
  rw [fragmentPackets_eq, hcount, List.range_succ_eq_map, List.map_cons, List.map_map]
  rfl

/-- The data of the Start fragment and of the others is the NAL without its header. -/
theorem fragmentData_append_laterFragments (hm : 0 < m) (hnal : 0 < nal.length) (F : Frame) (h : Byte) :
    fragmentData nal m 0 ++ dataOf (laterFragments F nal h m) = nal.drop 1 := by
  have hall : dataOf (fragmentPackets F nal h m) = nal.drop 1 := flatMap_fragmentPackets hm F nal h
  rw [fragmentPackets_eq_cons_laterFragments hm hnal, dataOf_cons] at hall
  simpa [fragmentAt, emitted, payloadAt] using hall

theorem isLaterFragment_of_mem (F : Frame) : ∀ P ∈ laterFragments F nal h m, IsLaterFragment nal h m P.payload := by
  intro P hP
  obtain ⟨k, hk, rfl⟩ := List.mem_map.1 hP
  exact ⟨k + 1, Nat.succ_pos k, Nat.add_lt_of_lt_sub (List.mem_range.1 hk), rfl⟩

/-- A fragment that begins inside the NAL, behind its header, has data (R108). -/
theorem fragmentData_length_pos (hm : 0 < m) {k : Nat} (hk : 0 < k) (hin : k < ceilDiv nal.length m) :
    1 ≤ (fragmentData nal m (k * m)).length := by
  have hoff := (lt_ceilDiv_iff hm nal.length k).1 hin
  have hpos := Nat.mul_pos hk hm
  rw [fragmentData_length]
  omega

/-- The Start fragment commits start code, NAL header and data, and the flag of the header (R223, R227). -/
theorem packetTransaction_startFragment (q : Nat) (hF : (s.config.strictF && headerF h) = false)
    (hdata : 1 ≤ (fragmentData nal m 0).length) (hfits : fits s (4 + (fragmentData nal m 0).length)) :
    packetTransaction dispatchParse q (payloadAt nal h m 0) s =
      afterCommit ([0x00, 0x00, 0x01, h] ++ fragmentData nal m 0) (flagOfType (headerType h)) s.work.cur s := by
  have hheader (last : Bool) : reconstructedHeader (fuIndicator h) (fuHeader true last h) = h :=
    header_of_fuIndicator_fuHeader h true last
  have hstaged (last : Bool) := fragment_start (don := false) (donBytes := []) rfl (fuStart_fuHeader true last h)
    (fuIndicator h) (fragmentData nal m 0) (clearStage s)
  rw [payloadAt, Nat.zero_mul]
  refine packetTransaction_fuIndicator q hF (Nat.succ_le_succ hdata) ((hstaged _).trans ?_)
    (by rw [List.length_append]; exact hfits)
  rw [hheader]
  rfl

/-- A later fragment commits its data (R224). -/
theorem packetTransaction_laterFragment (q : Nat) {k : Nat} (hk : 0 < k) (hF : (s.config.strictF && headerF h) = false)
    (hdata : 1 ≤ (fragmentData nal m (k * m)).length) (hfits : fits s (fragmentData nal m (k * m)).length) :
    packetTransaction dispatchParse q (payloadAt nal h m k) s =
      afterCommit (fragmentData nal m (k * m)) 0 s.work.cur s := by
  have hS : fuStart (fuHeader (decide (k = 0)) (decide (nal.length ≤ k * m + m)) h) = false := by
    rw [fuStart_fuHeader, decide_eq_false hk.ne']
  exact packetTransaction_fuIndicator q hF (Nat.succ_le_succ hdata)
    (fragment_continuation (don := false) (donBytes := []) rfl hS (fuIndicator h) _ _) hfits

/-! ## A call on the fragments (R230) -/

/-- The fragments after the Start fragment append their data and nothing else (R224). -/
theorem callPackets_of_laterFragments {pkts : List Packet} (hb : s.busy = true)
    (hF : (s.config.strictF && headerF h) = false) (hlater : ∀ P ∈ pkts, IsLaterFragment nal h m P.payload)
    (hm : 0 < m) (hfits : fits s (dataOf pkts).length) :
    ∃ t, callPackets (pkts.map inSnapshot) s = callEnd t ∧ Appended (dataOf pkts) 0 s t := by
  induction pkts generalizing s with
  | nil => exact ⟨s, rfl, s.work, by simp [dataOf]⟩
  | cons P rest ih =>
    obtain ⟨⟨k, hk, hin, hpayload⟩, hrest⟩ := List.forall_mem_cons.1 hlater
    have hdrop : P.payload.drop 2 = fragmentData nal m (k * m) := by rw [hpayload]; rfl
    rw [dataOf_cons, List.length_append, hdrop] at hfits
    have hpacket := packetTransaction_laterFragment P.seq hk hF (fragmentData_length_pos hm hk hin)
      (fits_of_le hfits (Nat.le_add_right _ _))
    rw [← hpayload] at hpacket
    obtain ⟨t, ht, happended⟩ := ih (s := afterCommit (fragmentData nal m (k * m)) 0 s.work.cur s) hb hF hrest
      (fits_afterCommit.2 hfits)
    refine ⟨t, (callPackets_cons_of_busy hpacket hb _).trans ht, ?_⟩
    rw [dataOf_cons, hdrop]
    exact (afterCommit_appended _ 0 _ s).trans happended

/-- With an MTU of 2 or more every fragment is committed: OBUF gets the NAL behind a start code, FLAGS its flag. -/
theorem callPackets_fragmentPackets (hb : s.busy = true) (hF : (s.config.strictF && headerF h) = false) (hm : 2 ≤ m)
    {body : Bytes} (hlong : m ≤ (h :: body).length) (hfits : fits s (3 + (h :: body).length)) (F : Frame) :
    ∃ t, callPackets ((fragmentPackets F (h :: body) h m).map inSnapshot) s = callEnd t ∧
      Appended ([0x00, 0x00, 0x01] ++ h :: body) (flagOfType (headerType h)) s t := by
  have hpos : 0 < m := by omega
  have hnal : 0 < (h :: body).length := Nat.succ_pos _
  have hdata : 1 ≤ (fragmentData (h :: body) m 0).length := by rw [fragmentData_length]; omega
  have hall := fragmentData_append_laterFragments hpos hnal F h
  have hlen := congrArg List.length hall
  rw [List.drop_one, List.tail_cons, List.length_append] at hlen
  have hbytes : 3 + (h :: body).length = 4 + (fragmentData (h :: body) m 0).length +
      (dataOf (laterFragments F (h :: body) h m)).length := by
    rw [List.length_cons]; omega
  rw [hbytes] at hfits
  have hstart := packetTransaction_startFragment (F.highest + 1) hF hdata (fits_of_le hfits (Nat.le_add_right _ _))
  obtain ⟨t, ht, happended⟩ := callPackets_of_laterFragments (nal := h :: body)
    (s := afterCommit ([0x00, 0x00, 0x01, h] ++ fragmentData (h :: body) m 0) (flagOfType (headerType h)) s.work.cur s)
    hb hF (isLaterFragment_of_mem F) hpos (fits_afterCommit.2 (by rw [List.length_append]; exact hfits))
  refine ⟨t, ?_, ?_⟩
  · rw [fragmentPackets_eq_cons_laterFragments hpos hnal, ← ht]
    exact callPackets_cons_of_busy hstart hb _
  · have hboth := (afterCommit_appended _ _ s.work.cur s).trans happended
    rw [List.append_assoc, hall] at hboth
    simpa using hboth

/-- With an MTU of 1 the Start fragment is skipped as SHORT, and the others append what follows the NAL header. -/
theorem callPackets_fragmentPackets_of_mtu_one (hb : s.busy = true) (hF : (s.config.strictF && headerF h) = false)
    {body : Bytes} (hfits : fits s body.length) (F : Frame) :
    ∃ t, callPackets ((fragmentPackets F (h :: body) h 1).map inSnapshot) s = callEnd t ∧
      Appended body 0 (afterSkip .short (F.highest + 1) s) t := by
  have hnal : 0 < (h :: body).length := Nat.succ_pos _
  have hnothing : fragmentData (h :: body) 1 0 = [] := by simp [fragmentData, slice]
  have hall := fragmentData_append_laterFragments Nat.one_pos hnal F h
  rw [hnothing, List.nil_append, List.drop_one, List.tail_cons] at hall
  have hstart : packetTransaction dispatchParse (F.highest + 1) (payloadAt (h :: body) h 1 0) s =
      afterSkip .short (F.highest + 1) s :=
    packetTransaction_skip (parsePacket_short _ (payloadAt_zero_length_le Nat.one_pos _ h) _)
  obtain ⟨t, ht, happended⟩ := callPackets_of_laterFragments (nal := h :: body)
    (s := afterSkip .short (F.highest + 1) s) hb hF (isLaterFragment_of_mem F) Nat.one_pos (by rw [hall]; exact hfits)
  refine ⟨t, ?_, hall ▸ happended⟩
  rw [fragmentPackets_eq_cons_laterFragments Nat.one_pos hnal, ← ht]
  exact callPackets_cons_of_busy hstart hb _

end Fragments

/-! ## The two commands one after the other (R100, R130, R230) -/

/-- A ready machine runs the command that its host issues next. -/
theorem step_of_command {s : State} {c : HostCmd} {rest : List HostItem} {i : Instr} (h : s.ready)
    (hhost : s.host = ⟨false, .command c⟩ :: rest) (hc : decode (.command c) = .ok i) :
    step s = exec i { s with host := rest } := by
  obtain ⟨hd, hb, -⟩ := h
  exact step_of_fetched hd (nextEvent_idle hb hhost) hc

/-- A ready machine whose host issues DEPACKETIZE begins the call (R131, R132). -/
theorem step_of_depacketize {s : State} {ref : Nat} {F : Frame} {rest : List HostItem} (h : s.ready)
    (hhost : s.host = ⟨false, .command { code := 0x02, frame := ref }⟩ :: rest)
    (hF : lookupFrame s.frames ref = some F) : step s = .next (beginCall ref F { s with host := rest }) :=
  (step_of_command h hhost rfl).trans (depacketizeStartsAFreshCall { s with host := rest } ref F h hF)

/-- PACKETIZE of a long NAL into a Frame without packets, then the call start of DEPACKETIZE: the snapshot is the NAL's
fragments. -/
theorem exists_steps_to_call {s : State} {h : Byte} {body : Bytes} {mtu : Option Nat} {ref m : Nat} {F : Frame}
    (hready : s.ready)
    (hhost : s.host = [⟨false, .command { code := 0x01, nal := some (h :: body), mtu := mtu, frame := ref }⟩,
      ⟨false, .command { code := 0x02, frame := ref }⟩])
    (hF : lookupFrame s.frames ref = some F) (hempty : F.pkts = []) (hmtu : mtu.getD s.config.mtuDefault = m)
    (hm : 1 ≤ m) (hlong : m ≤ (h :: body).length) :
    ∃ t u G, step s = .next t ∧ step t = .next (beginCall ref G u) ∧ u.ready ∧ u.config = s.config ∧ u.host = [] ∧
      snapshot G = (fragmentPackets F (h :: body) h m).map inSnapshot := by
  have hkeys : keysBelowHighest F := fun P hP => by simp [hempty] at hP
  obtain ⟨w, k, hpacketize⟩ := longNalBecomesItsFuAFragments
    { s with host := [⟨false, .command { code := 0x02, frame := ref }⟩] } h body mtu ref F m hready hF hkeys hmtu hm
    hlong
  refine ⟨_, _, _, (step_of_command hready hhost rfl).trans hpacketize,
    step_of_depacketize hready rfl (lookupFrame_insertFrame_self _ _ _), hready, rfl, rfl, ?_⟩
  simp only [snapshot, distinctPackets, hempty, List.nil_append]
  rfl

/-- Settles O37: the two commands start a call on the NAL's fragments, and the steps of the call run them to its end. -/
theorem fragmentedNalRoundTrips : Obligations.FragmentedNalRoundTrips := by
  intro s h body mtu ref F m hready hhost hF hempty hmtu hm hlong hstrict hcap
  obtain ⟨t, u, G, hpacketize, hdepacketize, ⟨hd, -, hclear⟩, hconfig, hhost', hsnapshot⟩ :=
    exists_steps_to_call hready hhost hF hempty hmtu hm hlong
  have hbusy : (beginCall ref G u).busy = true := rfl
  have hF' : ((beginCall ref G u).config.strictF && headerF h) = false := by
    rw [beginCall_config, hconfig]
    exact hstrict
  have hfits : fits (beginCall ref G u) (3 + (h :: body).length) := fun k hk => by
    rw [beginCall_config, hconfig] at hk
    simpa using hcap k hk
  obtain ⟨k, hk⟩ := exists_runs_callPackets (s := beginCall ref G u) hd hbusy (by simp [hhost']) hsnapshot
  have hruns : runs (k + 2) s =
      .next (callPackets ((fragmentPackets F (h :: body) h m).map inSnapshot) (beginCall ref G u)) := by
    rw [runs_succ hpacketize, runs_succ hdepacketize, hk]
  rcases Nat.eq_or_lt_of_le hm with rfl | hm2
  · obtain ⟨v, hv, w, rfl⟩ := callPackets_fragmentPackets_of_mtu_one (body := body) hbusy hF'
      (fits_of_le hfits (by rw [List.length_cons]; omega)) F
    rw [hv] at hruns
    exact ⟨_, _, hruns, rfl, hclear, hhost', rfl, rfl, BitVec.zero_or, rfl, rfl⟩
  · obtain ⟨v, hv, w, rfl⟩ := callPackets_fragmentPackets hbusy hF' hm2 hlong hfits F
    rw [hv] at hruns
    refine ⟨_, _, hruns, rfl, hclear, hhost', rfl, ?_⟩
    rw [if_neg hm2.ne']
    exact ⟨rfl, BitVec.zero_or, rfl⟩

end Sys2Proof.Proofs.Fragmentation

/-! Faults (spec/60_exceptions.md): what a faulted machine refuses. -/

namespace Sys2Proof.Proofs.Exceptions

open Sys2Proof Sys2Proof.Machine Sys2Proof.Proofs.Scope Sys2Proof.Proofs.Encoding

/-! ## Commands without an exemption (R257, R258) -/

/-- FAULT is looked at after BUSY and before the command's own meaning `k` (R258). -/
theorem issue_of_faulted {s : State} (hd : s.config.donSort = false) (hb : s.busy = false) (hf : s.fault ≠ 0)
    (k : State → Out) : issue false s k = .next (returns .refused s) := by
  have hidle : ¬ s.busy = true := by simp [hb]
  rw [issue, accepted_of hd, if_neg hidle, if_pos ⟨hf, rfl⟩]

/-- An idle faulted machine refuses an instruction that is a command without an exemption (R257). -/
theorem exec_of_faulted {s : State} {i : Instr} {k : State → Out} (hissued : ∀ u, exec i u = issue false u k)
    (hd : s.config.donSort = false) (hb : s.busy = false) (hf : s.fault ≠ 0) :
    exec i s = .next { s with reply := .refused } :=
  (hissued s).trans (issue_of_faulted hd hb hf k)

/-! ## Illegal codes (R93) -/

/-- On an idle machine a step that fetches an illegal code runs it as one, whatever FAULT is. -/
theorem step_of_illegalCode {s : State} {o : Bool} {c : HostCmd} {rest : List HostItem}
    (hd : s.config.donSort = false) (hb : s.busy = false) (hhost : s.host = ⟨o, .command c⟩ :: rest)
    (hcode : c.code.toNat = 0 ∨ 7 ≤ c.code.toNat) : step s = illegalCommand { s with host := rest } := by
  rw [step_eq_accepted, accepted_of hd, nextEvent_idle hb hhost]
  exact runFetched_illegalCode hcode _

/-- Settles O44: the four commands and an illegal code are issued without the exemption of R257. -/
theorem faultedMachineRefusesOtherCommands : Obligations.FaultedMachineRefusesOtherCommands := by
  intro s hd hb hf
  refine ⟨?packetize, ?depacketize, ?bufRead, ?bufSeek, ?illegalCode⟩
  case packetize => exact fun _ _ _ => exec_of_faulted (fun _ => rfl) hd hb hf
  case depacketize => exact fun _ => exec_of_faulted (fun _ => rfl) hd hb hf
  case bufRead => exact fun _ => exec_of_faulted (fun _ => rfl) hd hb hf
  case bufSeek => exact fun _ => exec_of_faulted (fun _ => rfl) hd hb hf
  case illegalCode =>
    intro o c rest hhost hcode
    rw [step_of_illegalCode hd hb hhost hcode]
    exact issue_of_faulted (s := { s with host := rest }) hd hb hf _

end Sys2Proof.Proofs.Exceptions

/-! Reset and hazards (spec/70_reset_and_hazards.md): what reset clears, what a host that does not wait for the ENGINE
runs into, and that the packet steps of a call come to the atomic call. -/

namespace Sys2Proof.Proofs.Hazards

open Sys2Proof Sys2Proof.Machine Sys2Proof.Machine.Claim
open Sys2Proof.Proofs.Scope Sys2Proof.Proofs.Effects Sys2Proof.Proofs.Registers Sys2Proof.Proofs.Encoding
open Sys2Proof.Proofs.Depacketizer Sys2Proof.Proofs.Fragmentation Sys2Proof.Proofs.Exceptions

/-! ## A reference without a Frame (R283, log 6) -/

theorem withFrame_unsupplied {ref : Nat} {s : State} (h : lookupFrame s.frames ref = none) (k : Frame → Out) :
    withFrame ref s k = .fault (.noFrame ref) := by
  simp [withFrame, h]

/-- Settles O48: on a ready machine both commands look their Frame up before anything else. -/
theorem unsuppliedFrameStopsTheModel : Obligations.UnsuppliedFrameStopsTheModel := by
  intro s ref hready hnone
  refine ⟨fun nal mtu => ?packetize, ?depacketize⟩
  case packetize =>
    change execPacketize nal mtu ref s = _
    rw [execPacketize, issue_ready hready, withFrame_unsupplied hnone]
  case depacketize =>
    change execDepacketize ref s = _
    rw [execDepacketize, issue_ready hready, withFrame_unsupplied hnone]

/-! ## Reset and the idle ENGINE (R280 to R282) -/

/-- What the host does to an idle ENGINE is the step. -/
theorem step_of_idle {s : State} {it : HostItem} {rest : List HostItem} (hd : s.config.donSort = false)
    (hb : s.busy = false) (hhost : s.host = it :: rest) :
    step s = runEvent (hostEvent it.act) { s with host := rest } := by
  rw [step_eq_accepted, accepted_of hd, nextEvent_idle hb hhost]

/-- An idle ENGINE whose host issues nothing waits (R281). -/
theorem nextEvent_waiting {s : State} (hb : s.busy = false) (hhost : s.host = []) : nextEvent s = (.idle, s) := by
  simp [nextEvent, hb, hhost]

/-- Settles O5: the step is `resetBlock`, whose fields are read one by one; that only reset clears FAULT is
`faultIsStickyUntilReset` where FAULT holds a code. -/
theorem resetClearsTheBlockAndWaits : Obligations.ResetClearsTheBlockAndWaits := by
  refine ⟨?reset, ?waits, ?clears⟩
  case reset =>
    intro s o rest hd hb hhost
    exact ⟨resetBlock { s with host := rest }, step_of_idle hd hb hhost,
      rfl, rfl, rfl, rfl, rfl, rfl, rfl, rfl, rfl, rfl, rfl, rfl⟩
  case waits =>
    intro s hd hb hhost
    rw [step_eq_accepted, accepted_of hd, nextEvent_waiting hb hhost]
    rfl
  case clears =>
    intro s t hstep hfaulted hclear
    have hchanged : t.fault ≠ s.fault := fun h => hfaulted (h ▸ hclear)
    rcases faultIsStickyUntilReset s t hstep hchanged with ⟨hwasClear, -⟩ | ⟨-, -, hreset⟩
    · exact absurd hwasClear hfaulted
    · exact hreset

/-! ## Commands that overlap a call (R284) -/

/-- BUSY is looked at before FAULT and before the command's own meaning `k`, with or without the exemption of R257. -/
theorem issue_of_busy {s : State} (hd : s.config.donSort = false) (hb : s.busy = true) (exempt : Bool)
    (k : State → Out) : issue exempt s k = .next (recordFault .overlap s) := by
  rw [issue, accepted_of hd, if_pos hb]

/-- A command issued during a call gets no further than its fault (R284). -/
theorem exec_of_busy {s : State} {i : Instr} {c : HostCmd} (hi : encode i = .command c)
    (hd : s.config.donSort = false) (hb : s.busy = true) : exec i s = .next (recordFault .overlap s) := by
  obtain ⟨exempt, k, hissued⟩ := exec_of_encode_command hi
  rw [hissued, issue_of_busy hd hb]

/-- What a host that does not wait does during a call is the step, before the call goes on (log 4). -/
theorem step_of_overlap {s : State} {it : HostItem} {rest : List HostItem} (hd : s.config.donSort = false)
    (hl : landsWhileBusy it = true) (hhost : s.host = it :: rest) :
    step s = runEvent (hostEvent it.act) { s with host := rest } := by
  rw [step_eq_accepted, accepted_of hd, nextEvent_overlap hl hhost]

/-- Settles O46: the six commands and an illegal code are all issued, and BUSY comes first. -/
theorem overlappingCommandFaults : Obligations.OverlappingCommandFaults := by
  intro s hd hb
  refine ⟨fun nal mtu ref => ?packetize, fun ref => ?depacketize, ?releaseBuffer, fun n => ?bufRead,
    fun pos => ?bufSeek, fun r => ?readReg, fun c rest hhost hcode => ?illegalCode⟩
  case packetize | depacketize | releaseBuffer | bufRead | bufSeek | readReg => exact exec_of_busy rfl hd hb
  case illegalCode =>
    calc step s = runFetched (.command c) { s with host := rest } := step_of_overlap hd rfl hhost
      _ = illegalCommand { s with host := rest } := runFetched_illegalCode hcode _
      _ = .next (recordFault .overlap { s with host := rest }) :=
        issue_of_busy (s := { s with host := rest }) hd hb false _

/-! ## Frames stored during a call (R285) -/

/-- An overlapping storing, of a whole Frame or of one packet, is the step. -/
theorem step_of_overlappingStore {s : State} {rest : List HostItem} {act : HostAct} {ref : Nat} {G : Frame}
    (hd : s.config.donSort = false) (hhost : s.host = ⟨true, act⟩ :: rest)
    (hstores : (∃ highest ssrc ptb keep packets, act = .supplyFrame ref highest ssrc ptb keep packets ∧
        G = suppliedFrame highest ssrc ptb keep packets) ∨
      (∃ P F, act = .addPacket ref P ∧ lookupFrame s.frames ref = some F ∧ G = addPacket F P)) :
    step s = .next (hostSetsFrame ref G { s with host := rest }) := by
  obtain ⟨highest, ssrc, ptb, keep, packets, rfl, rfl⟩ | ⟨P, F, rfl, hF, rfl⟩ := hstores
  · exact step_of_overlap hd rfl hhost
  · exact (step_of_overlap hd rfl hhost).trans (withFrame_of (s := { s with host := rest }) hF _)

/-- Settles O39: whether the stored Frame ends the call is decided by the reference that the call noted. -/
theorem frameMutationDuringACallFaults : Obligations.FrameMutationDuringACallFaults := by
  intro s rest act ref G hd hb hhost hstores
  rw [step_of_overlappingStore hd hhost hstores]
  refine ⟨fun hused => ?inUse, fun hother => ?other⟩
  case inUse =>
    have hends : hostSetsFrame ref G { s with host := rest } =
        abortCall .overlap (setFrame ref G { s with host := rest }) := if_pos ⟨hb, hused⟩
    rw [hends]
    exact ⟨_, rfl, _, _, rfl⟩
  case other =>
    have hkept : hostSetsFrame ref G { s with host := rest } = setFrame ref G { s with host := rest } :=
      if_neg fun h => hother h.2
    rw [hkept]
    rfl

/-! ## Packet steps and the atomic call (R287) -/

/-- `k` steps from `s` come to `o`, and BUSY is 1 in `s` and in every state before the last. -/
structure BusyUntil (k : Nat) (s : State) (o : Out) : Prop where
  outcome : runs k s = o
  held : ∀ j u, j < k → runs j s = .next u → u.busy = true

theorem BusyUntil.here (s : State) : BusyUntil 0 s (.next s) := ⟨rfl, fun _ _ hj => absurd hj (Nat.not_lt_zero _)⟩

theorem BusyUntil.step {k : Nat} {s t : State} {o : Out} (hb : s.busy = true) (hstep : step s = .next t)
    (h : BusyUntil k t o) : BusyUntil (k + 1) s o where
  outcome := (runs_succ hstep k).trans h.outcome
  held j u hj hu := by
    cases j with
    | zero => cases hu; exact hb
    | succ j => exact h.held j u (Nat.lt_of_succ_lt_succ hj) ((runs_succ hstep j).symm.trans hu)

/-- The current packet is the first of those that are left (R23). -/
theorem currentPacket_eq_head? {w : Work} {pkts : List (Nat × Bytes)} (hleft : w.pkts.drop w.pktIdx = pkts) :
    w.pkts[w.pktIdx]? = pkts.head? := by
  rw [← List.head?_drop, hleft]

/-- With no overlapping host entry the packets that are left take a step each at most, and the call end one more; BUSY
falls in the last of them. -/
theorem exists_busyUntil_callPackets {s : State} {pkts : List (Nat × Bytes)} (hd : s.config.donSort = false)
    (hb : s.busy = true) (hh : ∀ it ∈ s.host.head?, it.overlap = false)
    (hleft : s.work.pkts.drop s.work.pktIdx = pkts) :
    ∃ k, k ≤ pkts.length + 1 ∧ BusyUntil k s (.next (callPackets pkts s)) := by
  induction pkts generalizing s with
  | nil =>
    have hstep : step s = .next (callEnd s) := by
      rw [step_of_busy hd hb hh, engineEvent, currentPacket_eq_head? hleft]
      rfl
    exact ⟨1, le_rfl, .step hb hstep (.here _)⟩
  | cons e rest ih =>
    obtain ⟨q, p⟩ := e
    have hstep : step s = .next (packetTransaction dispatchParse q p s) := by
      rw [step_of_packet hd hb hh (currentPacket_eq_head? hleft), runPacket, accepted_of hd]
    by_cases hgoes : (packetTransaction dispatchParse q p s).busy = true
    · obtain ⟨hconfig, hhost, hpkts, hidx⟩ :=
        packetEffect_goesOn (packetTransaction_effect dispatchParse_stages q p s) hgoes
      obtain ⟨k, hk, hrest⟩ := ih (hconfig ▸ hd) hgoes (hhost ▸ hh)
        (by rw [hpkts, hidx, ← List.tail_drop, hleft]; rfl)
      rw [callPackets_cons_of_busy rfl hgoes]
      exact ⟨k + 1, Nat.succ_le_succ hk, .step hb hstep hrest⟩
    · rw [callPackets_cons_of_idle hgoes]
      exact ⟨1, Nat.le_add_left _ _, .step hb hstep (.here _)⟩

theorem runs_one (s : State) : runs 1 s = step s := by
  have hcore : Sys2Proof.core.step s = step s := rfl
  simp only [runs, Host.Core.run, hcore]
  cases step s <;> rfl

/-- On an idle ENGINE the step of a command is its instruction, whether the configuration is accepted or
refused (R16). -/
theorem step_of_idle_command {s : State} {o : Bool} {c : HostCmd} {rest : List HostItem} {i : Instr}
    (hb : s.busy = false) (hhost : s.host = ⟨o, .command c⟩ :: rest) (hc : decode (.command c) = .ok i) :
    step s = exec i { s with host := rest } := by
  cases hd : s.config.donSort with
  | false => exact step_of_fetched hd (nextEvent_idle hb hhost) hc
  | true => exact (step_refused hd).trans (exec_refused (s := { s with host := rest }) hd i).symm

theorem decode_depacketize {c : HostCmd} (h : c.code = 0x02) : decode (.command c) = .ok (.depacketize c.frame) := by
  simp only [decode, decodeCommand, h]
  rfl

/-- On an idle ENGINE a DEPACKETIZE begins a call, or its one step is already the outcome of the atomic call: a refusal
of the configuration (R16), a refusal by FAULT (R257), or a stop without a Frame (log 6). -/
theorem depacketize_begins_or_is_atomic {s : State} (hb : s.busy = false) (ref : Nat) :
    (∃ F, s.ready ∧ lookupFrame s.frames ref = some F) ∨ exec (.depacketize ref) s = depacketizeAtomic ref s := by
  cases hd : s.config.donSort with
  | true =>
    refine .inr ?_
    rw [exec_refused hd, depacketizeAtomic, issue, accepted_refused hd]
  | false =>
    by_cases hf : s.fault = 0
    · cases hF : lookupFrame s.frames ref with
      | some F => exact .inl ⟨F, ⟨hd, hb, hf⟩, rfl⟩
      | none =>
        refine .inr ?_
        rw [(unsuppliedFrameStopsTheModel s ref ⟨hd, hb, hf⟩ hF).2, depacketizeAtomic, issue_ready ⟨hd, hb, hf⟩,
          withFrame_unsupplied hF]
    · refine .inr ?_
      rw [exec_of_faulted (fun _ => rfl) hd hb hf, depacketizeAtomic, issue_of_faulted hd hb hf]
      rfl

/-- Settles O33: the first step begins the call, and the steps after it are those of `exists_busyUntil_callPackets`;
where no call begins, the first step is the whole command. -/
theorem packetStepsRefineTheAtomicCall : Obligations.PacketStepsRefineTheAtomicCall := by
  intro s c rest hb hissues hcode
  obtain ⟨hhost, hwaits⟩ := hissues
  have hstep : step s = exec (.depacketize c.frame) { s with host := rest } :=
    step_of_idle_command hb hhost (decode_depacketize hcode)
  rcases depacketize_begins_or_is_atomic (s := { s with host := rest }) hb c.frame with ⟨F, hready, hF⟩ | hatomic
  · have hbegin : step s = .next (beginCall c.frame F { s with host := rest }) :=
      hstep.trans (depacketizeStartsAFreshCall _ c.frame F hready hF)
    have ⟨hd, _⟩ := hready
    obtain ⟨k, hk, hcall⟩ := exists_busyUntil_callPackets (s := beginCall c.frame F { s with host := rest })
      (pkts := snapshot F) hd rfl hwaits rfl
    refine ⟨k + 1, Nat.le_add_left _ _, fun G hG => ?bound, ?outcome, fun j u hj hjk hu => ?held⟩
    case bound =>
      cases hG.symm.trans hF
      simpa [snapshot, distinctPackets] using hk
    case outcome => rw [runs_succ hbegin, hcall.outcome, depacketizeAtomic_of_ready hready hF]
    case held =>
      obtain ⟨i, rfl⟩ := Nat.exists_eq_add_of_le' hj
      exact hcall.held i u (Nat.lt_of_succ_lt_succ hjk) ((runs_succ hbegin i).symm.trans hu)
  · refine ⟨1, le_rfl, fun F _ => Nat.le_add_left _ _, ?outcome, fun j u hj hj1 => absurd hj1 (Nat.not_lt.2 hj)⟩
    case outcome => rw [runs_one, hstep, hatomic]

end Sys2Proof.Proofs.Hazards
